-- ==== Sys2Proof/Word.lean ====
section
/-! DEFINITION. The words of the part, and `Four`: one thing for each of the four carriers, units or tenants. -/

namespace Sys2Proof

/-- A byte of a tenant link or of the configuration memory. -/
abbrev Byte := BitVec 8

/-- A hop superframe number, 0–65535, wrapping (R1). -/
abbrev Hsn := BitVec 16

/-- The number of a frame within its superframe, 0–63 (R1). -/
abbrev FrameNo := Fin 64

/-- The tag of a proposal or of a power ask, 0–255 (R13). -/
abbrev Tag := BitVec 8

/-- A lane sequence, 0–15 (R12). -/
abbrev Seq := BitVec 4

/-- One of the radio carriers 0–3. -/
abbrev CarrierId := Fin 4

/-- A carrier unit, numbered by its single carrier or by the primary of the pair (R23). -/
abbrev UnitId := Fin 4

/-- One of the tenants 0–3. -/
abbrev TenantId := Fin 4

/-- Index of a lane: lane number 1–31 is index + 1 (R157). -/
abbrev LaneIx := Fin 31

/-- The numbers 0–3, in increasing order. -/
def ids : List (Fin 4) := [0, 1, 2, 3]

/-- One `α` for each of the four carriers, units or tenants. -/
structure Four (α : Type) where
  /-- number 0 -/
  a0 : α
  /-- number 1 -/
  a1 : α
  /-- number 2 -/
  a2 : α
  /-- number 3 -/
  a3 : α
  deriving DecidableEq, Repr

/-- Four times the same. -/
def Four.of {α : Type} (x : α) : Four α := ⟨x, x, x, x⟩

/-- Read number `i`. -/
def Four.get {α : Type} (f : Four α) (i : Fin 4) : α :=
  match i with
  | 0 => f.a0
  | 1 => f.a1
  | 2 => f.a2
  | 3 => f.a3

/-- Replace number `i`. -/
def Four.set {α : Type} (f : Four α) (i : Fin 4) (x : α) : Four α :=
  match i with
  | 0 => { f with a0 := x }
  | 1 => { f with a1 := x }
  | 2 => { f with a2 := x }
  | 3 => { f with a3 := x }

/-- Change number `i` by `g`. -/
def Four.modify {α : Type} (f : Four α) (i : Fin 4) (g : α → α) : Four α :=
  f.set i (g (f.get i))

/-- Apply `g` to all four. -/
def Four.map {α β : Type} (f : Four α) (g : α → β) : Four β :=
  ⟨g f.a0, g f.a1, g f.a2, g f.a3⟩

/-- Build from a value per number. -/
def Four.build {α : Type} (g : Fin 4 → α) : Four α := ⟨g 0, g 1, g 2, g 3⟩

/-- Sum of four counts. -/
def Four.sum (f : Four Nat) : Nat := f.a0 + f.a1 + f.a2 + f.a3

/-- Quotient rounded up ("ceil" of 00_scope.md). -/
def ceilDiv (a b : Nat) : Nat := (a + b - 1) / b

/-- A 32-bit count that saturates at its highest value, plus one (R17, R24, R191). -/
def satSucc32 (n : Nat) : Nat := if n < 4294967295 then n + 1 else n

/-- Superframes from `a` to `b`, modulo 65536 (R17, R79). -/
def hsnDistance (a b : Hsn) : Nat := (b - a).toNat

/-- The two bytes of a 16-bit field, most significant first (chapter 11). -/
def bytes16 (n : Nat) : List Byte := [BitVec.ofNat 8 (n / 256), BitVec.ofNat 8 n]

/-- The four bytes of a 32-bit field, most significant first (chapter 11). -/
def bytes32 (n : Nat) : List Byte := bytes16 (n / 65536) ++ bytes16 n

/-- One bit of a byte, as a number. -/
def bitIf (b : Bool) (k : Nat) : Nat := if b then 2 ^ k else 0

end Sys2Proof
end

