-- ==== Sys2Proof/Syntax.lean ====
section
/-! DEFINITION. The commands of the part: one constructor for each row of spec/opcode_table.json, with its operands. -/

namespace Sys2Proof

/-- End role (R3). -/
inductive EndRole
  | lead | follow
  deriving DecidableEq, Repr

/-- Site power mode (R107). -/
inductive Mode
  | full | economy | survival
  deriving DecidableEq, Repr

/-- Reasons of a DECLINE (R13). -/
inductive DeclineReason
  | badValue | linkPending | notLocked | noBudget | atLimit | held | busy | superseded
  deriving DecidableEq, Repr

/-- Results of a POWER_SET (R13). -/
inductive PowerResult
  | granted | cap | budget | mode
  deriving DecidableEq, Repr

/-- A LINK change: the four LINK kinds with the carriers they name (R78). -/
inductive LinkChange
  | park (c : CarrierId)
  | wake (c : CarrierId)
  | promote (s t : CarrierId)
  | revert (s t : CarrierId)
  deriving DecidableEq, Repr

/-- The fields of a HELLO (R13). -/
structure Hello where
  /-- sender role -/
  role : EndRole
  /-- HSN of the superframe -/
  hsn : Hsn
  /-- site power mode -/
  mode : Mode
  /-- active limit, 1–4 -/
  limit : Nat
  /-- transmit level of each carrier, 0–15 -/
  level : Four Nat
  /-- level cap of each carrier, 0–15 -/
  cap : Four Nat
  /-- hold, 0–4 -/
  hold : Nat
  /-- ladder digest -/
  digest : BitVec 16
  deriving DecidableEq, Repr

/-- The six service messages, with every field the table of R13 requires. -/
inductive Message
  | hello (h : Hello)
  | proposeRx (tag : Tag) (unit : CarrierId) (q : Nat)
  | proposeLink (tag : Tag) (change : LinkChange)
  | agree (tag : Tag) (target : Hsn)
  | decline (tag : Tag) (reason : DeclineReason)
  | powerAsk (tag : Tag) (carrier : CarrierId) (delta : Int)
  | powerSet (tag : Option Tag) (carrier : CarrierId) (level : Nat) (result : PowerResult)
  deriving DecidableEq, Repr

/-- The kind field of a PROPOSE (R13). -/
inductive ProposeKind
  | rxProfile | park | wake | promote | revert
  deriving DecidableEq, Repr

/-- A message as found in the slot of a header: any field may be absent or out of range (R17). -/
inductive RawMessage
  | hello (role : Option EndRole) (hsn : Option Nat) (mode : Option Mode) (limit : Option Nat)
      (level cap : Four (Option Nat)) (hold digest : Option Nat)
  | propose (tag unit : Option Nat) (kind : Option ProposeKind) (value : Option Nat)
  | agree (tag target : Option Nat)
  | decline (tag : Option Nat) (reason : Option DeclineReason)
  | powerAsk (tag carrier : Option Nat) (delta : Option Int)
  | powerSet (tag carrier level : Option Nat) (result : Option PowerResult)
  deriving DecidableEq, Repr

/-- The header of a received frame that the modem marks good (R9). -/
structure Header where
  /-- profile index, 0–11 -/
  profile : Nat
  /-- hop superframe number of the frame at its sender -/
  hsn : Hsn
  /-- frame number at its sender -/
  frame : FrameNo
  /-- ALIGNED -/
  aligned : Bool
  /-- DROP_REQUEST -/
  drop : Bool
  /-- MIRROR -/
  mirror : Bool
  /-- the service message slot -/
  slot : Option RawMessage
  deriving DecidableEq, Repr

/-- A fragment descriptor as received (R12). -/
structure FragDesc where
  /-- offset in the payload -/
  off : Nat
  /-- length in bytes -/
  len : Nat
  /-- FIRST flag -/
  first : Bool
  /-- LAST flag -/
  last : Bool
  deriving DecidableEq, Repr

/-- A radio block as received, with the modem's mark; an idle block has no tenant, no lane, no sequence and no descriptors (R12). -/
structure RxBlock where
  /-- the modem marks the block good -/
  good : Bool
  /-- tenant field; absent in an idle block -/
  tenant : Option Nat
  /-- lane; absent in an idle block -/
  lane : Option Nat
  /-- lane sequence; absent in an idle block -/
  seq : Option Nat
  /-- fragment descriptors -/
  frags : List FragDesc
  /-- 64 payload bytes -/
  payload : List Byte
  deriving DecidableEq, Repr

/-- The fields of a SAMPLE (R39). -/
structure SampleData where
  /-- upper quality -/
  upper : Nat
  /-- lower quality -/
  lower : Nat
  /-- output quality -/
  output : Nat
  /-- aligned flag of the upper branch -/
  upperAligned : Bool
  /-- aligned flag of the lower branch -/
  lowerAligned : Bool
  /-- block error count -/
  errors : Nat
  /-- selectivity -/
  selectivity : Nat
  deriving DecidableEq, Repr

/-- The blocks that take a boundary event, each at its own state (R2; log 1). -/
inductive BoundaryPart
  /-- Carrier Link Controller of carrier `k` -/
  | clc (k : CarrierId)
  /-- the shared hop recovery count (R37) -/
  | recovery
  /-- the four Fade Trackers (R45) -/
  | fade
  /-- Adaptation Engine, unit `u` (R62) -/
  | adapt (u : UnitId)
  /-- Plan Controller (R92, R94, R95) -/
  | plan
  /-- Power Budget Unit (R107) -/
  | power
  /-- Lane and Queue Unit (R173) -/
  | lanes
  /-- Carrier Pool Manager (R127) -/
  | pool
  /-- Transmit Scheduler (R142, R145) -/
  | schedule
  deriving DecidableEq, Repr

/-- The commands: the rows of spec/opcode_table.json. -/
inductive Instr
  /-- PART_RESET: release of RESET, with the two supply-state lines as read then (high = true). -/
  | partReset (lineA lineB : Bool)
  /-- PROVISIONING_TAKEN_IN: the read completes; the bytes of the memory, or none if it did not answer. -/
  | provisioningTakenIn (memory : Option (List Byte))
  /-- SUPERFRAME_BOUNDARY: order in which the blocks take it (log 1); `own`: expiries are left to steps of their own (log 2). -/
  | superframeBoundary (order : List BoundaryPart) (own : Bool)
  /-- MODEM_READY on a carrier. -/
  | modemReady (k : CarrierId)
  /-- SAMPLE on a carrier. -/
  | sample (k : CarrierId) (x : SampleData)
  /-- FRAME_REQUEST on a carrier, naming (HSN, frame). -/
  | frameRequest (k : CarrierId) (h : Hsn) (f : FrameNo)
  /-- FRAME_RECEIVED on a carrier: the header (none: marked bad) and the blocks in order. -/
  | frameReceived (k : CarrierId) (header : Option Header) (blocks : List RxBlock)
  /-- HELLO taken on a carrier, with HSN and frame number of its header. -/
  | hello (k : CarrierId) (hdrHsn : Hsn) (hdrFrame : FrameNo) (h : Hello)
  /-- PROPOSE of kind RX_PROFILE taken on a carrier. -/
  | proposeRxProfile (k : CarrierId) (tag : Tag) (unit : CarrierId) (q : Nat)
  /-- PROPOSE of a LINK kind taken on a carrier. -/
  | proposeLink (k : CarrierId) (tag : Tag) (change : LinkChange)
  /-- AGREE taken on a carrier. -/
  | agree (k : CarrierId) (tag : Tag) (target : Hsn)
  /-- DECLINE taken on a carrier. -/
  | decline (k : CarrierId) (tag : Tag) (reason : DeclineReason)
  /-- POWER_ASK taken on a carrier. -/
  | powerAsk (k : CarrierId) (tag : Tag) (carrier : CarrierId) (delta : Int)
  /-- POWER_SET taken on a carrier. -/
  | powerSet (k : CarrierId) (tag : Option Tag) (carrier : CarrierId) (level : Nat) (result : PowerResult)
  /-- ENERGY on a carrier. -/
  | energy (k : CarrierId)
  /-- MODEM_FAULT on a carrier. -/
  | modemFault (k : CarrierId)
  /-- WAKING_TIMEOUT of a carrier, as a step of its own. -/
  | wakingTimeout (k : CarrierId)
  /-- ACQUIRE_TIMEOUT of a carrier, as a step of its own. -/
  | acquireTimeout (k : CarrierId)
  /-- HOLDOFF_END of a carrier, as a step of its own. -/
  | holdoffEnd (k : CarrierId)
  /-- FAULT_RETRY_EXPIRY of a carrier, as a step of its own. -/
  | faultRetryExpiry (k : CarrierId)
  /-- HOP_RECOVERY_ATTEMPT, as a step of its own. -/
  | hopRecoveryAttempt
  /-- SUPPLY_STATE_CHANGE: the two lines after the change (high = true). -/
  | supplyStateChange (lineA lineB : Bool)
  /-- MODE_DEBOUNCE_EXPIRY, as a step of its own. -/
  | modeDebounceExpiry
  /-- WAKE_PENALTY_EXPIRY of a carrier. -/
  | wakePenaltyExpiry (k : CarrierId)
  /-- REQUEST_BACKOFF_EXPIRY of a unit. -/
  | requestBackoffExpiry (u : UnitId)
  /-- POWER_ASK_EXPIRY of a unit, as a step of its own. -/
  | powerAskExpiry (u : UnitId)
  /-- PROPOSAL_TIMEOUT of the PROPOSED entry with this tag, as a step of its own. -/
  | proposalTimeout (tag : Tag)
  /-- RX_ENTRY_PAST_TARGET of a unit, as a step of its own. -/
  | rxEntryPastTarget (u : UnitId)
  /-- DROP_HOLD_EXPIRY of a unit. -/
  | dropHoldExpiry (u : UnitId)
  /-- UP_DWELL_REACHED of a unit. -/
  | upDwellReached (u : UnitId)
  /-- BRANCH_DWELL_EXPIRY of a carrier. -/
  | branchDwellExpiry (k : CarrierId)
  /-- IDLE_PARK_RUN_REACHED of a unit, as a step of its own. -/
  | idleParkRunReached (u : UnitId)
  /-- REVERT_DWELL_REACHED of the substitution whose standby carrier is `c`, as a step of its own. -/
  | revertDwellReached (c : CarrierId)
  /-- STALL_LIMIT of a tenant's lane, as a step of its own. -/
  | stallLimit (t : TenantId) (l : LaneIx)
  /-- LINK_UP of a tenant link. -/
  | linkUp (t : TenantId)
  /-- LINK_DOWN of a tenant link. -/
  | linkDown (t : TenantId)
  /-- TENANT_FRAME_RECEIVED: the bytes between the delimiters. -/
  | tenantFrameReceived (t : TenantId) (bytes : List Byte)
  /-- TENANT_FRAME_SENT: the frame in progress has left the link. -/
  | tenantFrameSent (t : TenantId)
  /-- READ_CARRIER: the payload bytes after the code (one byte k). -/
  | readCarrier (t : TenantId) (args : List Byte)
  /-- READ_TRACE: the payload bytes after the code (one byte k). -/
  | readTrace (t : TenantId) (args : List Byte)
  /-- READ_PLAN: the payload bytes after the code (none). -/
  | readPlan (t : TenantId) (args : List Byte)
  /-- READ_CAPACITY: the payload bytes after the code (none). -/
  | readCapacity (t : TenantId) (args : List Byte)
  /-- READ_POWER: the payload bytes after the code (none). -/
  | readPower (t : TenantId) (args : List Byte)
  /-- READ_PROVISION: the payload bytes after the code (none). -/
  | readProvision (t : TenantId) (args : List Byte)
  /-- READ_LANE: the payload bytes after the code (one byte L). -/
  | readLane (t : TenantId) (args : List Byte)
  /-- WRITE_LANE: the payload bytes after the code (L and the three entry bytes). -/
  | writeLane (t : TenantId) (args : List Byte)
  /-- SET_HOLD: the payload bytes after the code (one byte n). -/
  | setHold (t : TenantId) (args : List Byte)
  /-- READ_COUNTERS: the payload bytes after the code (none). -/
  | readCounters (t : TenantId) (args : List Byte)
  /-- CLEAR_COUNTERS: the payload bytes after the code (none). -/
  | clearCounters (t : TenantId) (args : List Byte)
  /-- SET_NOTICE_MASK: the payload bytes after the code (one byte m). -/
  | setNoticeMask (t : TenantId) (args : List Byte)
  /-- READ_NOTICES: the payload bytes after the code (none). -/
  | readNotices (t : TenantId) (args : List Byte)
  /-- CLEAR_NOTICES: the payload bytes after the code (one byte m). -/
  | clearNotices (t : TenantId) (args : List Byte)
  /-- RESET_TENANT: the payload bytes after the code (none). -/
  | resetTenant (t : TenantId) (args : List Byte)
  /-- UNKNOWN_COMMAND: a code the table of R189 does not list, and the payload bytes after it. -/
  | unknownCommand (t : TenantId) (code : Byte) (args : List Byte)
  deriving DecidableEq, Repr

end Sys2Proof
end

