-- ==== Sys2Proof/Config.lean ====
section
/-! DEFINITION. The free values: what the spec leaves open. None has a body, so nothing can be proved of their value. -/

namespace Sys2Proof

/-- FREE VALUE (log 6). The two bytes that READ_PLAN carries for a target HSN that is absent: R194 says only that the
field is "meaningful when bit 2 of the flags is set". Applied to the count of free values drawn. Safe. -/
opaque Config.absentTarget : Nat → BitVec 16

/-- FREE VALUE (log 6). The two bytes that READ_LANE carries for the arrival HSN while the queue is empty: R173 says
"absent", and R194 gives 0xFF for one-byte fields only. Applied to the count of free values drawn. Safe. -/
opaque Config.absentArrival : Nat → BitVec 16

end Sys2Proof
end

