-- ==== Sys2Proof/Machine/Settings.lean ====
section
/-! DEFINITION. The settings taken in at part reset, their built-in defaults (R57, R58, R108, R122, R200), and the figures
fixed in the part. -/

namespace Sys2Proof.Machine

/-- Constellation of a profile (R56). -/
inductive Constellation
  | s4 | s16 | s32 | s64 | s128 | s256
  deriving DecidableEq, Repr

/-- Code rate of a profile (R56). -/
inductive CodeRate
  | r12 | r23 | r34 | r56 | r78
  deriving DecidableEq, Repr

/-- One profile of the ladder (R56). -/
structure Profile where
  /-- constellation -/
  constellation : Constellation
  /-- code rate -/
  rate : CodeRate
  /-- blocks per frame, 4–96 -/
  blocks : Nat
  /-- required quality, 0–200 -/
  required : Nat
  deriving DecidableEq, Repr

/-- Provisioned role of a carrier; a MIRROR carrier names its primary (R21). -/
inductive Role
  | off | traffic | standby
  | mirror (primary : CarrierId)
  deriving DecidableEq, Repr

/-- The three figures of a site power mode (R108). -/
structure ModeFigures where
  /-- level cap -/
  cap : Nat
  /-- budget -/
  budget : Nat
  /-- active limit -/
  limit : Nat
  deriving DecidableEq, Repr

/-- Share-table figures of an enrolled tenant (R141). -/
structure Share where
  /-- committed share c_t, in 64ths -/
  committed : Nat
  /-- excess weight w_t -/
  weight : Nat
  /-- reserve quota, in buffer units -/
  quota : Nat
  deriving DecidableEq, Repr

/-- The settings in force: the loaded provisioning record with the DEFAULTS indication and the format number (R197, R200). -/
structure Settings where
  /-- end role (R3) -/
  endRole : EndRole
  /-- provisioned roles (R21) -/
  roles : Four Role
  /-- promotion enable (R122) -/
  promotion : Bool
  /-- the profile ladder, profile 0 first (R56) -/
  ladder : List Profile
  /-- hold margin (R58) -/
  holdMargin : Nat
  /-- target margin (R58) -/
  targetMargin : Nat
  /-- up margin (R58) -/
  upMargin : Nat
  /-- up dwell, boundaries (R58) -/
  upDwell : Nat
  /-- drop hold, boundaries (R58) -/
  dropHold : Nat
  /-- start level (R108) -/
  startLevel : Nat
  /-- figures of FULL -/
  full : ModeFigures
  /-- figures of ECONOMY -/
  economy : ModeFigures
  /-- figures of SURVIVAL -/
  survival : ModeFigures
  /-- idle-park run (R122) -/
  idlePark : Nat
  /-- wake backlog (R122) -/
  wakeBacklog : Nat
  /-- revert dwell (R122) -/
  revertDwell : Nat
  /-- share-table figures of each enrolled tenant; none: not enrolled (R141) -/
  shares : Four (Option Share)
  /-- the DEFAULTS indication (R200) -/
  defaults : Bool
  /-- format number in force (R200) -/
  format : Nat
  deriving DecidableEq, Repr

/-- The default ladder (R57). -/
def defaultLadder : List Profile :=
  [⟨.s4, .r12, 8, 28⟩, ⟨.s4, .r34, 12, 40⟩, ⟨.s16, .r23, 18, 56⟩, ⟨.s16, .r56, 22, 68⟩,
   ⟨.s64, .r34, 28, 84⟩, ⟨.s64, .r56, 32, 96⟩, ⟨.s256, .r34, 38, 112⟩, ⟨.s256, .r56, 42, 124⟩]

/-- The built-in defaults (R200, with R57, R58, R108, R122). -/
def defaultSettings : Settings where
  endRole := .lead
  roles := .of .traffic
  promotion := false
  ladder := defaultLadder
  holdMargin := 8
  targetMargin := 16
  upMargin := 24
  upDwell := 16
  dropHold := 16
  startLevel := 12
  full := ⟨15, 64, 4⟩
  economy := ⟨11, 32, 2⟩
  survival := ⟨7, 12, 1⟩
  idlePark := 1875
  wakeBacklog := 512
  revertDwell := 256
  shares := .of (some ⟨16, 1, 512⟩)
  defaults := true
  format := 0

/-- Figures of a mode (R108). -/
def Settings.figures (p : Settings) (m : Mode) : ModeFigures :=
  match m with
  | .full => p.full
  | .economy => p.economy
  | .survival => p.survival

/-- The highest profile number of the ladder in force (R56). -/
def Settings.top (p : Settings) : Nat := p.ladder.length - 1

/-- Blocks per frame of profile `q`; 0 above the ladder, where no profile is. -/
def Settings.blocks (p : Settings) (q : Nat) : Nat :=
  match p.ladder[q]? with
  | some x => x.blocks
  | none => 0

/-- required(q), the required quality of profile `q`; 0 above the ladder, where no profile is. -/
def Settings.required (p : Settings) (q : Nat) : Nat :=
  match p.ladder[q]? with
  | some x => x.required
  | none => 0

/-- Is tenant `t` enrolled (R141)? -/
def Settings.enrolled (p : Settings) (t : TenantId) : Bool := (p.shares.get t).isSome

/-- c_t; 0 for a tenant not enrolled (R141). -/
def Settings.committed (p : Settings) (t : TenantId) : Nat :=
  match p.shares.get t with
  | some x => x.committed
  | none => 0

/-- w_t; a tenant not enrolled has none (R141). -/
def Settings.weight (p : Settings) (t : TenantId) : Nat :=
  match p.shares.get t with
  | some x => x.weight
  | none => 0

/-- Reserve quota; 0 for a tenant not enrolled (R160). -/
def Settings.quota (p : Settings) (t : TenantId) : Nat :=
  match p.shares.get t with
  | some x => x.quota
  | none => 0

/-- Target mode of a supply-state code (R106). -/
def modeOfLines (lineA lineB : Bool) : Mode :=
  match lineA, lineB with
  | false, false => .full
  | false, true => .economy
  | true, _ => .survival

/-- Buffer units of the pool (R160). -/
def poolUnits : Nat := 4096

/-- Shared pool size S (R160). -/
def Settings.sharedSize (p : Settings) : Nat := poolUnits - (Four.build p.quota).sum

/-- Depth of an outbound service queue (R15). -/
def serviceQueueDepth : Nat := 8

/-- Depth of a command queue (R188). -/
def commandQueueDepth : Nat := 8

/-- Entries of a trace ring (R41). -/
def ringSize : Nat := 64

/-- Acquire count at which an acquisition has failed (R32). -/
def acquireLimit : Nat := 64

/-- Holdoff count at which HOLDOFF ends (R32). -/
def holdoffLimit : Nat := 32

/-- Waking count at which a carrier counts as faulted (R26). -/
def wakingLimit : Nat := 256

/-- Retry count at which a faulted carrier is powered again (R36). -/
def retryLimit : Nat := 256

/-- Hop recovery count from which recovery is attempted (R37). -/
def recoveryLimit : Nat := 16

/-- Debounce count at which the target mode comes into effect (R107). -/
def debounceLimit : Nat := 16

/-- Wake penalty in boundaries (R121). -/
def wakePenalty : Nat := 1024

/-- Request back-off in boundaries (R128). -/
def requestBackoff : Nat := 16

/-- Boundaries of backlog before a wake (R131). -/
def backlogRunLimit : Nat := 4

/-- Cost of a carrier at level 4, the lowest level of a start (R82, R110). -/
def startCost : Nat := 5

/-- Blocks a staging holds at most, its pair frame record included (R144). -/
def stagingSize : Nat := 256

/-- Buffer units of an egress buffer (R174). -/
def egressUnits : Nat := 512

end Sys2Proof.Machine
end

