-- ==== Sys2Proof/Machine/State.lean ====
section
/-! DEFINITION. The state of the part, block by block, and its value after reset. Plain data. -/

namespace Sys2Proof.Machine

/-! ## Carrier Link Controller (chapter 2) and Service Channel Unit (chapter 1), per carrier -/

/-- Link state of a carrier (R24). -/
inductive LinkState
  | down | waking | parked | acquire | locked | holdoff
  deriving DecidableEq, Repr

/-- State of one Carrier Link Controller (R24). -/
structure Clc where
  /-- link state -/
  link : LinkState
  /-- in start allowance, until the first MODEM_READY (R25) -/
  allowance : Bool
  /-- aligned-sample run, 0–8 -/
  alignedRun : Nat
  /-- unaligned-sample run, 0–4 -/
  unalignedRun : Nat
  /-- unaligned-header run, 0–4 -/
  headerRun : Nat
  /-- latest header ALIGNED -/
  headerAligned : Bool
  /-- joined (R30) -/
  joined : Bool
  /-- acquire count, 0–64 -/
  acquireCount : Nat
  /-- holdoff count, 0–32 -/
  holdoffCount : Nat
  /-- waking count, 0–256 -/
  wakingCount : Nat
  /-- wake mark (R33) -/
  wakeMark : Bool
  /-- failed wakes, 0–3 (R33) -/
  failedWakes : Nat
  /-- fault latch (R36) -/
  faultLatch : Bool
  /-- retry count, 0–256 (R36) -/
  retryCount : Nat
  /-- lock-loss count, 32 bits saturating -/
  lockLosses : Nat
  /-- wake-failure count, 32 bits saturating -/
  wakeFailures : Nat
  deriving DecidableEq, Repr

/-- After part reset (R24). -/
def Clc.reset : Clc :=
  ⟨.down, false, 0, 0, 0, false, false, 0, 0, 0, false, 0, false, 0, 0, 0⟩

/-- Service channel state of one carrier. -/
structure Scu where
  /-- outbound service queue, head first (R15) -/
  queue : List Message
  /-- service error count, 32 bits saturating (R17) -/
  errors : Nat
  deriving DecidableEq, Repr

/-- After part reset (R15, R17). -/
def Scu.reset : Scu := ⟨[], 0⟩

/-! ## Hop Timing Unit (chapter 1) -/

/-- State of the Hop Timing Unit; the end role is in the settings. -/
structure Htu where
  /-- hop superframe number (R1) -/
  hsn : Hsn
  /-- number of the local frame in progress (R1) -/
  frame : FrameNo
  /-- the anchor; the hop is HOP_UP exactly while there is one (R6, R7) -/
  anchor : Option CarrierId
  /-- role-conflict indication (R8) -/
  conflict : Bool
  /-- per carrier, HSN and frame number of the latest good header (R5) -/
  lastHeader : Four (Option (Hsn × FrameNo))
  /-- hop recovery count, 0–16, shared by the Carrier Link Controllers (R37) -/
  recovery : Nat
  deriving DecidableEq, Repr

/-- After part reset (R1, R7, R8, R37). -/
def Htu.reset : Htu := ⟨0, 0, none, false, .of none, 0⟩

/-! ## Fade Tracker (chapter 3), per carrier -/

/-- Combiner mode (R47). -/
inductive Combiner
  | upper | lower | joint
  deriving DecidableEq, Repr

/-- Entry of the trace ring (R41). -/
structure RingEntry where
  /-- output quality -/
  output : Nat
  /-- upper quality -/
  upper : Nat
  /-- lower quality -/
  lower : Nat
  /-- upper branch aligned -/
  upperAligned : Bool
  /-- lower branch aligned -/
  lowerAligned : Bool
  /-- block error count -/
  errors : Nat
  /-- selectivity -/
  selectivity : Nat
  /-- combiner mode in use -/
  mode : Combiner
  deriving DecidableEq, Repr

/-- Superframe accumulators (R45). -/
structure Accumulators where
  /-- number of samples, 0–1023 -/
  number : Nat
  /-- sum of output quality -/
  output : Nat
  /-- sum of upper quality -/
  upper : Nat
  /-- sum of lower quality -/
  lower : Nat
  /-- sum of selectivity -/
  selectivity : Nat
  deriving DecidableEq, Repr

/-- State of one Fade Tracker. The short mean and the fall are read from the ring (R42, R43). -/
structure Ftr where
  /-- trace ring, oldest first (R41) -/
  ring : List RingEntry
  /-- latest alignment (R40) -/
  aligned : Bool
  /-- error run, 0–2 (R44) -/
  errorRun : Nat
  /-- superframe accumulators (R45) -/
  acc : Accumulators
  /-- last superframe mean, or absent (R45) -/
  lastMean : Option Nat
  /-- number of samples of the superframe last closed, handed on with its mean (R45, R46) -/
  lastNumber : Nat
  /-- combiner mode (R47) -/
  mode : Combiner
  /-- branch dwell count, 0–4 (R47) -/
  dwell : Nat
  deriving DecidableEq, Repr

/-- After part reset (R40, R41, R44, R45, R47). -/
def Ftr.reset : Ftr := ⟨[], false, 0, ⟨0, 0, 0, 0, 0⟩, none, 0, .joint, 4⟩

/-! ## Adaptation Engine (chapter 4) -/

/-- Adaptation state of a unit (R59). -/
inductive AdaptState
  | steady | askingPower | proposing | dropping
  deriving DecidableEq, Repr

/-- An outstanding power ask (R59, R67). -/
structure Ask where
  /-- tag -/
  tag : Tag
  /-- carrier asked -/
  carrier : CarrierId
  /-- delta in level steps -/
  delta : Int
  /-- wait count, 0–2 boundaries -/
  wait : Nat
  deriving DecidableEq, Repr

/-- Adaptation context of a unit (R59). -/
structure Ade where
  /-- receive profile -/
  rxProfile : Nat
  /-- adaptation state -/
  state : AdaptState
  /-- up-dwell count -/
  upDwell : Nat
  /-- drop hold count -/
  dropHold : Nat
  /-- peer-at-cap mark: while set, the level and cap recorded, each possibly unknown (R70) -/
  atCap : Option (Option Nat × Option Nat)
  /-- asked carrier (R61) -/
  asked : Option CarrierId
  /-- outstanding ask -/
  ask : Option Ask
  /-- profile index of the latest good header on a LOCKED carrier since the unit's first member locked (R75) -/
  lastProfile : Option Nat
  /-- superframe mean of the unit at the last boundary, with its governing member; none: undefined (R46, R61) -/
  mean : Option (CarrierId × Nat)
  /-- short mean of the unit at its latest sample; none: undefined (R46) -/
  shortMean : Option Nat
  deriving DecidableEq, Repr

/-- After part reset (R46, R59). -/
def Ade.reset : Ade := ⟨0, .steady, 0, 0, none, none, none, none, none, none⟩

/-- The peer view, each item known or unknown (R60). -/
structure PeerView where
  /-- the peer's site power mode -/
  mode : Option Mode
  /-- the peer's transmit level on each carrier -/
  level : Four (Option Nat)
  /-- the peer's level cap on each carrier -/
  cap : Four (Option Nat)
  /-- the peer's ladder digest -/
  digest : Option (BitVec 16)
  deriving DecidableEq, Repr

/-- Everything unknown (R60). -/
def PeerView.unknown : PeerView := ⟨none, .of none, .of none, none⟩

/-! ## Plan Controller (chapter 5) -/

/-- Kind of a plan entry with the unit or carriers it names and its value (R78). -/
inductive Change
  | txProfile (u : UnitId) (q : Nat)
  | rxProfile (u : UnitId) (q : Nat)
  | link (c : LinkChange)
  deriving DecidableEq, Repr

/-- Origin of an entry (R78). -/
inductive Origin
  | local | peer
  deriving DecidableEq, Repr

/-- State of an entry (R78). -/
inductive EntryState
  | proposed | agreed
  deriving DecidableEq, Repr

/-- An entry of the switch plan (R78). -/
structure Entry where
  /-- tag of the PROPOSE -/
  tag : Tag
  /-- kind, unit and value -/
  change : Change
  /-- target HSN, absent while PROPOSED -/
  target : Option Hsn
  /-- origin -/
  origin : Origin
  /-- state -/
  state : EntryState
  /-- age, 0–15 boundaries -/
  age : Nat
  deriving DecidableEq, Repr

/-- State of the Plan Controller. -/
structure Plc where
  /-- the switch plan, in order of creation; plan order is read through `planOrder` (R79) -/
  plan : List Entry
  /-- proposal tag counter (R81) -/
  nextTag : Tag
  /-- transmit profile of each unit (R80) -/
  txProfile : Four Nat
  /-- drop-seen mark of each unit (R98) -/
  dropSeen : Four Bool
  /-- draining mark of each unit (R93) -/
  draining : Four Bool
  deriving DecidableEq, Repr

/-- After part reset (R78, R80, R81, R93, R98). -/
def Plc.reset : Plc := ⟨[], 0, .of 0, .of false, .of false⟩

/-! ## Power Budget Unit (chapter 6) -/

/-- State of the Power Budget Unit. -/
structure Pbu where
  /-- transmit level of each carrier, 0–15 (R104) -/
  level : Four Nat
  /-- input state: supply-state line A (R106) -/
  lineA : Bool
  /-- input state: supply-state line B (R106) -/
  lineB : Bool
  /-- target mode (R106) -/
  target : Mode
  /-- effective mode (R107) -/
  effective : Mode
  /-- debounce count, 0–16 (R107) -/
  debounce : Nat
  /-- settling indication (R118) -/
  settling : Bool
  deriving DecidableEq, Repr

/-! ## Carrier Pool Manager (chapter 7) -/

/-- Acting role (R22). -/
inductive ActingRole
  | traffic | standby | mirror | displaced
  deriving DecidableEq, Repr

/-- A substitution record: standby `s` acts for `t` (R121). -/
structure Substitution where
  /-- standby carrier -/
  s : CarrierId
  /-- carrier replaced -/
  t : CarrierId
  /-- revert dwell count, 0–4096 -/
  dwell : Nat
  deriving DecidableEq, Repr

/-- State of the Carrier Pool Manager (R121). -/
structure Cpm where
  /-- acting role; an OFF carrier has none -/
  acting : Four (Option ActingRole)
  /-- wake penalty of each carrier, 0–1024 -/
  penalty : Four Nat
  /-- MODEL's own (log 25): the penalty was set since the last boundary began, so that boundary does not lower it -/
  penaltyFresh : Four Bool
  /-- hold of each tenant, 0–4 -/
  hold : Four Nat
  /-- peer hold, or unknown -/
  peerHold : Option Nat
  /-- peer active limit, or unknown -/
  peerLimit : Option Nat
  /-- traffic count of each unit, 0–12288 -/
  traffic : Four Nat
  /-- offered count of each unit, 0–6144 -/
  offered : Four Nat
  /-- idle run of each unit, 0–65535 -/
  idleRun : Four Nat
  /-- backlog last handed on by the Lane and Queue Unit (R131, R173) -/
  backlog : Nat
  /-- backlog run, 0–4 -/
  backlogRun : Nat
  /-- substitution list, up to two records -/
  subs : List Substitution
  /-- request back-off of each unit, 0–16 -/
  backoff : Four Nat
  deriving DecidableEq, Repr

/-- After part reset (R121); the acting roles are handed out with the settings (R22; log 5). -/
def Cpm.reset : Cpm :=
  ⟨.of none, .of 0, .of false, .of 0, none, none, .of 0, .of 0, .of 0, 0, 0, [], .of 0⟩

/-! ## Transmit Scheduler (chapter 8) and Lane and Queue Unit (chapter 9) -/

/-- Phase in which bytes were staged (R144–R147). -/
inductive Phase
  | committedAssured | committedElastic | excess
  deriving DecidableEq, Repr

/-- Traffic class of a lane (R157). -/
inductive LaneClass
  | assured | elastic | bulk
  deriving DecidableEq, Repr

/-- A fragment of a staged block, with its packet, its phase and its bytes (R12, R144). -/
structure Frag where
  /-- offset in the payload -/
  off : Nat
  /-- length -/
  len : Nat
  /-- FIRST -/
  first : Bool
  /-- LAST -/
  last : Bool
  /-- number of the packet record it belongs to -/
  pkt : Nat
  /-- phase in which its bytes were staged -/
  phase : Phase
  /-- its bytes -/
  data : List Byte
  deriving DecidableEq, Repr

/-- A staged radio block (R144). -/
structure Block where
  /-- tenant -/
  tenant : TenantId
  /-- lane -/
  lane : LaneIx
  /-- lane sequence -/
  seq : Seq
  /-- one to four fragments -/
  frags : List Frag
  deriving DecidableEq, Repr

/-- The remainder of a packet staged only in part (R148). -/
structure Continuation where
  /-- tenant -/
  tenant : TenantId
  /-- lane -/
  lane : LaneIx
  /-- number of the packet record -/
  pkt : Nat
  /-- phase in which the packet was begun -/
  phase : Phase
  deriving DecidableEq, Repr

/-- Pair frame record (R152); an idle position is none. -/
structure PairRecord where
  /-- HSN of the frame -/
  hsn : Hsn
  /-- frame number -/
  frame : FrameNo
  /-- profile of the frame -/
  profile : Nat
  /-- the frame's blocks by position -/
  blocks : List (Option Block)
  /-- members that have taken it -/
  takenBy : List CarrierId
  deriving DecidableEq, Repr

/-- Staging of a unit (R144). -/
structure Staging where
  /-- Assured segment, head first -/
  assured : List Block
  /-- Other segment, head first -/
  other : List Block
  /-- continuation of the Assured segment -/
  contAssured : Option Continuation
  /-- continuation of the Other segment -/
  contOther : Option Continuation
  /-- pair frame record -/
  record : Option PairRecord
  deriving DecidableEq, Repr

/-- An empty staging (R144). -/
def Staging.empty : Staging := ⟨[], [], none, none, none⟩

/-- Lane pointers of a tenant, one per class (R146). -/
structure LanePointers where
  /-- of class ASSURED -/
  assured : LaneIx
  /-- of class ELASTIC -/
  elastic : LaneIx
  /-- of class BULK -/
  bulk : LaneIx
  deriving DecidableEq, Repr

/-- Stall mode (R157). -/
inductive StallMode
  | hold | watchdog
  deriving DecidableEq, Repr

/-- Entry of a lane table (R157). -/
structure LaneEntry where
  /-- whether arriving packets are taken -/
  valid : Bool
  /-- class -/
  cls : LaneClass
  /-- eligible set -/
  eligible : Four Bool
  /-- stall mode -/
  stall : StallMode
  /-- stall limit, 1–255 boundaries -/
  limit : Nat
  deriving DecidableEq, Repr

/-- Part of the buffer pool that holds a packet's units (R160). -/
inductive Pool
  | reserve | shared
  deriving DecidableEq, Repr

/-- Packet record of a lane queue (R163); length and units follow from the bytes. -/
structure Packet where
  /-- number of the record (log 14) -/
  id : Nat
  /-- the packet's bytes, 1–2048 -/
  data : List Byte
  /-- where its units are held -/
  pool : Pool
  /-- bytes staged -/
  staged : Nat
  /-- bytes sent -/
  sent : Nat
  /-- HSN at admission -/
  arrival : Hsn
  deriving DecidableEq, Repr

/-- Binding of a lane: the unit and the in-force copy (R166). -/
structure Binding where
  /-- unit -/
  unit : UnitId
  /-- in-force copy of the entry -/
  entry : LaneEntry
  deriving DecidableEq, Repr

/-- One lane of one tenant. -/
structure Lane where
  /-- written entry (R157) -/
  written : LaneEntry
  /-- binding; none: unbound (R166) -/
  bound : Option Binding
  /-- empty mark (R167) -/
  emptyMark : Bool
  /-- lane queue, head first (R163) -/
  queue : List Packet
  /-- stall timer, 0–255 boundaries; it runs while the queue holds a packet (R168) -/
  timer : Nat
  /-- lane sequence counter of the Transmit Scheduler (R149) -/
  seq : Seq
  deriving DecidableEq, Repr

/-- After part reset (R149, R157, R163, R166, R168). -/
def Lane.reset : Lane :=
  ⟨⟨false, .bulk, .of true, .watchdog, 255⟩, none, false, [], 0, 0⟩

/-- State of the Transmit Scheduler and of the Lane and Queue Unit, which share the lanes. -/
structure Sched where
  /-- hop capacity C (R140) -/
  capacity : Nat
  /-- C of the last renewal (R142) -/
  renewal : Nat
  /-- committed credit of each tenant (R141) -/
  credit : Four Nat
  /-- pointer of the committed ASSURED phase (R146) -/
  ptrAssured : TenantId
  /-- pointer of the committed ELASTIC phase (R146) -/
  ptrElastic : TenantId
  /-- pointer of the excess phase (R147) -/
  ptrExcess : TenantId
  /-- lane pointers of each tenant (R146) -/
  lanePtr : Four LanePointers
  /-- staging of each unit (R144) -/
  staging : Four Staging
  /-- the 31 lanes of each tenant (R157) -/
  lanes : Four (Vector Lane 31)
  /-- reserve units each tenant holds (R160) -/
  reserveHeld : Four Nat
  /-- shared units held (R160) -/
  sharedHeld : Nat
  /-- MODEL's own (log 14): number of the next packet record -/
  nextPkt : Nat
  deriving DecidableEq, Repr

/-- After part reset (R140–R157). -/
def Sched.reset : Sched :=
  ⟨0, 0, .of 0, 0, 0, 0, .of ⟨0, 0, 0⟩, .of .empty, .of (Vector.replicate 31 Lane.reset), .of 0, 0, 0⟩

/-! ## Receive Assembler (chapter 10) -/

/-- A way that is COLLECTING (R174). -/
structure Way where
  /-- tag: tenant -/
  tenant : TenantId
  /-- tag: lane -/
  lane : LaneIx
  /-- expected sequence -/
  expect : Seq
  /-- bytes collected, at most 2048 -/
  data : List Byte
  deriving DecidableEq, Repr

/-- A set of the reassembly cache; a FREE way is none (R174). -/
structure CacheSet where
  /-- way 0 -/
  way0 : Option Way
  /-- way 1 -/
  way1 : Option Way
  /-- LRU mark: the least recently used way is way 1 -/
  lru1 : Bool
  deriving DecidableEq, Repr

/-- After part reset (R174). -/
def CacheSet.reset : CacheSet := ⟨none, none, false⟩

/-- Frame hold of a mirror pair (R174). -/
structure HeldFrame where
  /-- member it arrived on -/
  member : CarrierId
  /-- HSN of the frame -/
  hsn : Hsn
  /-- frame number -/
  frame : FrameNo
  /-- profile index -/
  profile : Nat
  /-- MIRROR flag -/
  mirror : Bool
  /-- its blocks with their marks -/
  blocks : List RxBlock
  deriving DecidableEq, Repr

/-- A complete packet of an egress buffer (R174). -/
structure EgressPacket where
  /-- lane -/
  lane : LaneIx
  /-- contents -/
  data : List Byte
  deriving DecidableEq, Repr

/-- State of the Receive Assembler (R174). -/
structure Rxa where
  /-- frame hold of each mirror pair, by unit -/
  hold : Four (Option HeldFrame)
  /-- the 16 sets -/
  sets : Vector CacheSet 16
  /-- egress buffer of each tenant, head first -/
  egress : Four (List EgressPacket)
  deriving DecidableEq, Repr

/-- After part reset (R174). -/
def Rxa.reset : Rxa := ⟨.of none, Vector.replicate 16 CacheSet.reset, .of []⟩

/-! ## Tenant Link Interface (chapter 11), per tenant -/

/-- The eleven counters, 32 bits saturating (R191). -/
structure Counters where
  /-- PKT_IN -/
  pktIn : Nat
  /-- PKT_OUT -/
  pktOut : Nat
  /-- LANE -/
  lane : Nat
  /-- POOL -/
  pool : Nat
  /-- STALL -/
  stall : Nat
  /-- CARRIER -/
  carrier : Nat
  /-- RX_LOSS -/
  rxLoss : Nat
  /-- RX_EVICT -/
  rxEvict : Nat
  /-- EGRESS -/
  egress : Nat
  /-- LINK_DOWN -/
  linkDown : Nat
  /-- LINK_ERROR -/
  linkError : Nat
  deriving DecidableEq, Repr

/-- All zero (R191). -/
def Counters.zero : Counters := ⟨0, 0, 0, 0, 0, 0, 0, 0, 0, 0, 0⟩

/-- What the transmitter of a link is sending (R187). -/
inductive TxKind
  | reply | notice | egress
  deriving DecidableEq, Repr

/-- A frame in progress on a link (R187). -/
structure TxFrame where
  /-- reply, NOTICE or egress head packet -/
  kind : TxKind
  /-- lane byte, 0–31 -/
  lane : Nat
  /-- payload -/
  payload : List Byte
  deriving DecidableEq, Repr

/-- State of one Tenant Link Interface. -/
structure Tli where
  /-- link-up state (R186) -/
  up : Bool
  /-- frame in progress; none: the transmitter is free (R187) -/
  tx : Option TxFrame
  /-- waiting reply (R187) -/
  reply : Option (List Byte)
  /-- waiting NOTICE (R187) -/
  notice : Option (List Byte)
  /-- command queue, head first (R188) -/
  commands : List (List Byte)
  /-- counters (R191) -/
  counters : Counters
  /-- raised notice flags, bits 0–6 (R192) -/
  raised : BitVec 8
  /-- notice mask, bits 0–6 (R192) -/
  mask : BitVec 8
  /-- notice state: true SENT, false ARMED (R193) -/
  sent : Bool
  deriving DecidableEq, Repr

/-- After part reset (R186, R188, R191–R193). -/
def Tli.reset : Tli := ⟨false, none, none, none, [], .zero, 0, 0, false⟩

/-! ## Outputs, expiries, the whole -/

/-- Commands to a modem (R20). -/
inductive ModemCommand
  | powerUp | powerDown | mute | unmute
  | setCombiner (m : Combiner)
  | setLevel (n : Nat)
  deriving DecidableEq, Repr

/-- Header of a frame handed to a modem (R10). -/
structure FrameHeader where
  /-- profile index -/
  profile : Nat
  /-- HSN named by the request -/
  hsn : Hsn
  /-- frame number named by the request -/
  frame : FrameNo
  /-- ALIGNED -/
  aligned : Bool
  /-- DROP_REQUEST -/
  drop : Bool
  /-- MIRROR -/
  mirror : Bool
  /-- service message slot -/
  slot : Option Message
  deriving DecidableEq, Repr

/-- What a step puts on the part's links (log 13). -/
inductive Output
  /-- a command to the modem of carrier `k` -/
  | modem (k : CarrierId) (c : ModemCommand)
  /-- a frame for the modem of carrier `k`, with the profile's constellation and code rate; an idle block is none -/
  | frame (k : CarrierId) (h : FrameHeader) (modulation : Option (Constellation × CodeRate)) (blocks : List (Option Block))
  /-- a whole frame that has left tenant `t`'s link: the bytes between the delimiters -/
  | linkFrame (t : TenantId) (bytes : List Byte)
  /-- the frame in progress on tenant `t`'s link is ended at once with the end delimiter (R187) -/
  | linkCut (t : TenantId)
  deriving DecidableEq, Repr

/-- An expiry of the opcode table, with what it concerns (log 2). -/
inductive Expiry
  | waking (k : CarrierId)
  | acquire (k : CarrierId)
  | holdoff (k : CarrierId)
  | retry (k : CarrierId)
  | recovery
  | debounce
  | penalty (k : CarrierId)
  | backoff (u : UnitId)
  | ask (u : UnitId)
  | proposal (tag : Tag)
  | rxPast (u : UnitId)
  | dropHold (u : UnitId)
  | upDwell (u : UnitId)
  | branchDwell (k : CarrierId)
  | idlePark (u : UnitId)
  | revertDwell (c : CarrierId)
  | stall (t : TenantId) (l : LaneIx)
  deriving DecidableEq, Repr

/-- The state of the part, and the queue of commands that wait. -/
structure State where
  /-- the image has been taken in and the part runs (R197, R202) -/
  running : Bool
  /-- settings in force (Provisioning Loader) -/
  settings : Settings
  /-- Hop Timing Unit -/
  htu : Htu
  /-- Service Channel Unit, per carrier -/
  scu : Four Scu
  /-- Carrier Link Controllers -/
  clc : Four Clc
  /-- Fade Trackers -/
  ftr : Four Ftr
  /-- Adaptation Engine, per unit -/
  ade : Four Ade
  /-- ask tag counter of the Adaptation Engine (R59) -/
  askTag : Tag
  /-- peer view of the Adaptation Engine (R60) -/
  peer : PeerView
  /-- Plan Controller -/
  plc : Plc
  /-- Power Budget Unit -/
  pbu : Pbu
  /-- Carrier Pool Manager -/
  cpm : Cpm
  /-- Transmit Scheduler and Lane and Queue Unit -/
  sched : Sched
  /-- Receive Assembler -/
  rxa : Rxa
  /-- Tenant Link Interfaces -/
  links : Four Tli
  /-- MODEL's own (log 2): expiries left by the last boundary to steps of their own -/
  due : List Expiry
  /-- MODEL's own (log 13): what the last step put on the links, in order -/
  out : List Output
  /-- MODEL's own (log 6): number of free values drawn so far -/
  freeCount : Nat
  /-- commands that wait, the next first -/
  pending : List Instr
  deriving DecidableEq, Repr

/-- Reasons for a fault. The spec names no event that stops the part, so no meaning raises one. -/
inductive Fault
  /-- Raised by no meaning (log 34): the spec gives every event an effect or says that it is discarded. Safe. -/
  | none
  deriving DecidableEq, Repr

/-- Reasons for a refusal. -/
inductive Refusal
  /-- Raised by an arm of exec whose command has no meaning yet, by its mnemonic. Safe. -/
  | notModelled (mnemonic : String)
  deriving DecidableEq, Repr

/-- The part at the release of RESET: the supply-state lines are read once and every block has its reset value; the read of
the configuration memory has begun (R197, R107). Levels and acting roles come with the settings (log 5). -/
def State.atReset (lineA lineB : Bool) : State where
  running := false
  settings := { defaultSettings with defaults := false }
  htu := .reset
  scu := .of .reset
  clc := .of .reset
  ftr := .of .reset
  ade := .of .reset
  askTag := 0
  peer := .unknown
  plc := .reset
  pbu := ⟨.of 0, lineA, lineB, modeOfLines lineA lineB, modeOfLines lineA lineB, 0, false⟩
  cpm := .reset
  sched := .reset
  rxa := .reset
  links := .of .reset
  due := []
  out := []
  freeCount := 0
  pending := []

/-- Right after reset, with both supply-state lines low (log 4). -/
def State.reset : State := .atReset false false

end Sys2Proof.Machine
end

