-- ==== Sys2Proof/Machine/Operands.lean ====
section
/-! DEFINITION. Operand forms: the checks of what arrives (service messages R17, radio blocks R12, link frames R186, lane
entries R189), and the two check sums. -/

namespace Sys2Proof.Machine

/-! ## CRC-16 (R186) and CRC-32 (R198) -/

/-- One bit of the CRC-16: polynomial 0x1021, most significant bit first. -/
def crc16Bit (c : Nat) : Nat :=
  if 32768 ≤ c then (2 * c) % 65536 ^^^ 0x1021 else 2 * c

/-- One byte of the CRC-16. -/
def crc16Byte (c : Nat) (b : Byte) : Nat :=
  Nat.repeat crc16Bit 8 (c ^^^ (b.toNat * 256))

/-- CRC-16 of R186: initial value 0xFFFF, no reflection, no final inversion. -/
def crc16 (bs : List Byte) : Nat := bs.foldl crc16Byte 0xFFFF

/-- One bit of the CRC-32, register reflected: each byte is taken least significant bit first (R198). -/
def crc32Bit (c : Nat) : Nat :=
  if c % 2 = 1 then c / 2 ^^^ 0xEDB88320 else c / 2

/-- One byte of the CRC-32. -/
def crc32Byte (c : Nat) (b : Byte) : Nat :=
  Nat.repeat crc32Bit 8 (c ^^^ b.toNat)

/-- CRC-32 of R198: initial value all ones, remainder reflected (the register is kept so) and inverted. -/
def crc32 (bs : List Byte) : Nat := bs.foldl crc32Byte 0xFFFFFFFF ^^^ 0xFFFFFFFF

/-! ## Numbers of a carrier, a tag, a 16-bit field -/

/-- A carrier number 0–3. -/
def carrierOf (n : Nat) : Option CarrierId := if h : n < 4 then some ⟨n, h⟩ else none

/-- A lane number 1–31. -/
def laneOf (n : Nat) : Option LaneIx := if h : n - 1 < 31 then (if n = 0 then none else some ⟨n - 1, h⟩) else none

/-- The number 1–31 of a lane. -/
def laneNumber (l : LaneIx) : Nat := l.val + 1

/-- A tag 0–255. -/
def tagOf (n : Nat) : Option Tag := if n < 256 then some (BitVec.ofNat 8 n) else none

/-- A 16-bit field. -/
def wordOf (n : Nat) : Option (BitVec 16) := if n < 65536 then some (BitVec.ofNat 16 n) else none

/-- All four, if all are there. -/
def fourOf (f : Four (Option Nat)) : Option (Four Nat) :=
  match f.a0, f.a1, f.a2, f.a3 with
  | some a, some b, some c, some d => some ⟨a, b, c, d⟩
  | _, _, _, _ => none

/-! ## Service messages (R13, R17) -/

/-- Is every one of four values at most `m`? -/
def allAtMost (f : Four Nat) (m : Nat) : Bool := ids.all fun k => f.get k ≤ m

/-- Field ranges of a HELLO (R13). -/
def Hello.inRange (h : Hello) : Bool :=
  1 ≤ h.limit && h.limit ≤ 4 && allAtMost h.level 15 && allAtMost h.cap 15 && h.hold ≤ 4

/-- The conditions of R17 on a message whose required fields are all there: `now` is the current HSN, then HSN and frame
number of the header that carries the message. -/
def messageMalformed (now hdrHsn : Hsn) (hdrFrame : FrameNo) (m : Message) : Bool :=
  match m with
  | .hello h => !Hello.inRange h || hdrFrame != 0 || h.hsn != hdrHsn
  | .proposeRx _ _ q => 11 < q
  | .proposeLink _ (.promote s t) => s == t
  | .proposeLink _ (.revert s t) => s == t
  | .proposeLink _ (.park _) => false
  | .proposeLink _ (.wake _) => false
  | .agree _ target => 8 < hsnDistance now target
  | .decline _ _ => false
  | .powerAsk _ _ d => !((-3 ≤ d && d ≤ -1) || (1 ≤ d && d ≤ 8))
  | .powerSet tag _ n r => 15 < n || (tag.isNone && r != .mode)

/-- The change that a PROPOSE of a LINK kind names; PARK and WAKE carry no value (R13). -/
def linkChangeOf (kind : ProposeKind) (u : CarrierId) (value : Option Nat) : Option LinkChange :=
  match kind, value with
  | .park, none => some (.park u)
  | .wake, none => some (.wake u)
  | .promote, some t => (carrierOf t).map (.promote u)
  | .revert, some t => (carrierOf t).map (.revert u)
  | _, _ => none

/-- Reads a message of a slot: none where a required field is absent, a field the table makes absent is present, or a value
does not fit its field (R17). -/
def parseMessage (m : RawMessage) : Option Message :=
  match m with
  | .hello (some role) (some hsn) (some mode) (some limit) level cap (some hold) (some digest) =>
    match wordOf hsn, fourOf level, fourOf cap, wordOf digest with
    | some hsn, some level, some cap, some digest => some (.hello ⟨role, hsn, mode, limit, level, cap, hold, digest⟩)
    | _, _, _, _ => none
  | .hello .. => none
  | .propose (some tag) (some unit) (some kind) value =>
    match tagOf tag, carrierOf unit with
    | some tag, some unit =>
      if kind = .rxProfile then value.map (.proposeRx tag unit)
      else (linkChangeOf kind unit value).map (.proposeLink tag)
    | _, _ => none
  | .propose .. => none
  | .agree (some tag) (some target) =>
    match tagOf tag, wordOf target with
    | some tag, some target => some (.agree tag target)
    | _, _ => none
  | .agree .. => none
  | .decline (some tag) (some reason) => (tagOf tag).map (.decline · reason)
  | .decline .. => none
  | .powerAsk (some tag) (some carrier) (some delta) =>
    match tagOf tag, carrierOf carrier with
    | some tag, some carrier => some (.powerAsk tag carrier delta)
    | _, _ => none
  | .powerAsk .. => none
  | .powerSet (some tag) (some carrier) (some level) (some result) =>
    match tagOf tag, carrierOf carrier with
    | some tag, some carrier => some (.powerSet (some tag) carrier level result)
    | _, _ => none
  | .powerSet none (some carrier) (some level) (some result) =>
    (carrierOf carrier).map (.powerSet none · level result)
  | .powerSet .. => none

/-! ## Radio blocks as received (R12, R175) -/

/-- A fragment that has been checked. -/
structure RxFrag where
  /-- FIRST -/
  first : Bool
  /-- LAST -/
  last : Bool
  /-- its bytes -/
  data : List Byte
  deriving DecidableEq, Repr

/-- Class of a block of a frame with a good header (R175). -/
inductive BlockClass
  | bad
  | idle
  | traffic (t : TenantId) (l : LaneIx) (seq : Seq) (frags : List RxFrag)
  deriving DecidableEq, Repr

/-- Fragments lie in increasing order from byte `start` on, do not overlap and end within the 64 bytes (R12). -/
def fragsInOrder (start : Nat) (fs : List FragDesc) : Bool :=
  match fs with
  | [] => true
  | f :: rest =>
    start ≤ f.off && 1 ≤ f.len && f.len ≤ 64 && f.off ≤ 63 && f.off + f.len ≤ 64 && fragsInOrder (f.off + f.len) rest

/-- Bytes of a fragment in the payload. -/
def fragBytes (payload : List Byte) (f : FragDesc) : RxFrag :=
  ⟨f.first, f.last, (payload.drop f.off).take f.len⟩

/-- A lane sequence 0–15. -/
def seqOf (n : Nat) : Option Seq := if n < 16 then some (BitVec.ofNat 4 n) else none

/-- Has a block neither lane nor sequence nor descriptors, as an idle block has (R12)? -/
def isBlank (b : RxBlock) : Bool := b.lane.isNone && b.seq.isNone && b.frags.isEmpty

/-- Do payload and descriptors of a traffic block keep the constraints of R12? -/
def isFramed (b : RxBlock) : Bool :=
  1 ≤ b.frags.length && b.frags.length ≤ 4 && b.payload.length == 64 && fragsInOrder 0 b.frags

/-- Class of a block (R12, R175): one marked good is idle if it has none of the four fields, traffic if it has all of them within their
constraints, and bad otherwise. -/
def classify (b : RxBlock) : BlockClass :=
  if !b.good then .bad
  else
    match b.tenant with
    | none => if isBlank b then .idle else .bad
    | some t =>
      match carrierOf t, b.lane.bind laneOf, b.seq.bind seqOf with
      | some t, some l, some n => if isFramed b then .traffic t l n (b.frags.map (fragBytes b.payload)) else .bad
      | _, _, _ => .bad

/-! ## Frames of a tenant link (R186) -/

/-- The bytes between the delimiters of a frame. -/
def linkFrameBytes (lane : Nat) (payload : List Byte) : List Byte :=
  let body := BitVec.ofNat 8 lane :: bytes16 payload.length ++ payload
  body ++ bytes16 (crc16 body)

/-- The frame check: lane and payload, or none where the frame is discarded as LINK_ERROR. -/
def parseLinkFrame (bs : List Byte) : Option (Nat × List Byte) :=
  match bs with
  | lane :: hi :: lo :: rest =>
    let len := hi.toNat * 256 + lo.toNat
    let payload := rest.take len
    if 1 ≤ len && len ≤ 2048 && rest.length == len + 2 && lane.toNat ≤ 31
        && rest.drop len == bytes16 (crc16 (lane :: hi :: lo :: payload)) then
      some (lane.toNat, payload)
    else none
  | _ => none

/-! ## Lane entries (section 11.4) -/

/-- Code of a class (R194). -/
def LaneClass.code (c : LaneClass) : Nat :=
  match c with
  | .assured => 0
  | .elastic => 1
  | .bulk => 2

/-- The three bytes of a lane entry. -/
def LaneEntry.bytes (e : LaneEntry) : List Byte :=
  [BitVec.ofNat 8 (bitIf e.valid 0 + 2 * e.cls.code + bitIf (e.stall == .watchdog) 3),
   BitVec.ofNat 8 (bitIf e.eligible.a0 0 + bitIf e.eligible.a1 1 + bitIf e.eligible.a2 2 + bitIf e.eligible.a3 3),
   BitVec.ofNat 8 e.limit]

/-- The class of a code, none for code 3 (R189). -/
def laneClassOf (n : Nat) : Option LaneClass :=
  match n with
  | 0 => some .assured
  | 1 => some .elastic
  | 2 => some .bulk
  | _ => none

/-- The value check of WRITE_LANE (R189), and the entry. -/
def laneEntryOf (a b c : Byte) : Option LaneEntry :=
  match laneClassOf (a.toNat / 2 % 4) with
  | some cls =>
    if a.toNat < 16 && 1 ≤ b.toNat && b.toNat < 16 && 1 ≤ c.toNat then
      some ⟨a.getLsbD 0, cls, ⟨b.getLsbD 0, b.getLsbD 1, b.getLsbD 2, b.getLsbD 3⟩,
        if a.getLsbD 3 then .watchdog else .hold, c.toNat⟩
    else none
  | none => none

end Sys2Proof.Machine
end

