-- ==== Sys2Proof/Machine/Flags.lean ====
section
/-! DEFINITION. The notice flags, the notice state and the counters of a tenant link (R191–R193), and the outputs. -/

namespace Sys2Proof.Machine

/-- CAPACITY, bit 0 (R192). -/
def flagCapacity : BitVec 8 := 0x01
/-- PLAN, bit 1. -/
def flagPlan : BitVec 8 := 0x02
/-- CARRIER, bit 2. -/
def flagCarrier : BitVec 8 := 0x04
/-- DISCARD, bit 3. -/
def flagDiscard : BitVec 8 := 0x08
/-- POWER, bit 4. -/
def flagPower : BitVec 8 := 0x10
/-- HOP, bit 5. -/
def flagHop : BitVec 8 := 0x20
/-- DEFAULTS, bit 6. -/
def flagDefaults : BitVec 8 := 0x40

/-- The enabled set: flags raised and enabled by the mask (R193). -/
def Tli.enabled (x : Tli) : BitVec 8 := x.raised &&& x.mask

/-- ARMED, link UP and the enabled set non-empty: a NOTICE is made waiting and the state becomes SENT (R193). -/
def Tli.makeNotice (x : Tli) : Tli :=
  if x.up && !x.sent && x.enabled != 0 then { x with notice := some [0xC0, x.enabled], sent := true } else x

/-- SENT and the enabled set empty: a waiting NOTICE not yet started is withdrawn and the state becomes ARMED (R193). -/
def Tli.settleNotice (x : Tli) : Tli :=
  if x.sent && x.enabled == 0 then { x with notice := none, sent := false } else x

/-- Raise flags of one tenant (R192, R193). -/
def Tli.raise (x : Tli) (flags : BitVec 8) : Tli :=
  Tli.makeNotice { x with raised := x.raised ||| flags }

/-- Lower the flags that `m` names (R190, R193). -/
def Tli.lower (x : Tli) (m : BitVec 8) : Tli :=
  Tli.settleNotice { x with raised := x.raised &&& ~~~m }

/-- Replace the notice mask (R190, R193). -/
def Tli.setMask (x : Tli) (m : BitVec 8) : Tli :=
  Tli.makeNotice (Tli.settleNotice { x with mask := m })

/-- Raise flags for every tenant (R192). -/
def State.raiseAll (s : State) (flags : BitVec 8) : State :=
  { s with links := s.links.map (·.raise flags) }

/-- Names of the eleven counters (R191). -/
inductive CounterName
  | pktIn | pktOut | lane | pool | stall | carrier | rxLoss | rxEvict | egress | linkDown | linkError
  deriving DecidableEq, Repr

/-- Increment one counter, saturating (R191). -/
def Counters.bump (c : Counters) (n : CounterName) : Counters :=
  match n with
  | .pktIn => { c with pktIn := satSucc32 c.pktIn }
  | .pktOut => { c with pktOut := satSucc32 c.pktOut }
  | .lane => { c with lane := satSucc32 c.lane }
  | .pool => { c with pool := satSucc32 c.pool }
  | .stall => { c with stall := satSucc32 c.stall }
  | .carrier => { c with carrier := satSucc32 c.carrier }
  | .rxLoss => { c with rxLoss := satSucc32 c.rxLoss }
  | .rxEvict => { c with rxEvict := satSucc32 c.rxEvict }
  | .egress => { c with egress := satSucc32 c.egress }
  | .linkDown => { c with linkDown := satSucc32 c.linkDown }
  | .linkError => { c with linkError := satSucc32 c.linkError }

/-- Does an increment raise DISCARD (R191)? -/
def CounterName.discards (n : CounterName) : Bool := n != .pktIn && n != .pktOut

/-- An increment handed to a Tenant Link Interface (R191, R192). -/
def Tli.count (x : Tli) (n : CounterName) : Tli :=
  let y := { x with counters := x.counters.bump n }
  if n.discards then y.raise flagDiscard else y

/-- An increment of a counter of tenant `t`. -/
def State.count (s : State) (t : TenantId) (n : CounterName) : State :=
  { s with links := s.links.modify t (·.count n) }

/-- Increments in order. -/
def State.countAll (s : State) (cs : List (TenantId × CounterName)) : State :=
  cs.foldl (fun s c => s.count c.1 c.2) s

/-- Put something on a link of the part. -/
def State.emit (s : State) (o : Output) : State := { s with out := s.out ++ [o] }

/-- Send a command to the modem of carrier `k` (R20). -/
def State.command (s : State) (k : CarrierId) (c : ModemCommand) : State := s.emit (.modem k c)

end Sys2Proof.Machine
end

