-- ==== Sys2Proof/Machine/Ops.lean ====
section
/-! DEFINITION. The named reads and operations the blocks share: roles and units (chapter 2), anchor and service queue
(chapter 1), limits and budget (chapters 6 and 7), hop capacity and credits (chapter 8), the frame of every event. -/

namespace Sys2Proof.Machine

/-! ## Units (R21, R23) -/

/-- Provisioned role of a carrier (R21). -/
def State.role (s : State) (k : CarrierId) : Role := s.settings.roles.get k

/-- The unit a carrier belongs to; an OFF carrier belongs to none (R23). -/
def State.unitOf (s : State) (k : CarrierId) : Option UnitId :=
  match s.role k with
  | .off => none
  | .mirror p => some p
  | .traffic => some k
  | .standby => some k

/-- The mirror of a primary (R21). -/
def State.mirrorOf (s : State) (u : UnitId) : Option CarrierId := ids.find? fun k => s.role k == .mirror u

/-- The members of unit `u`, the primary first; none if `u` numbers no unit (R23). -/
def State.members (s : State) (u : UnitId) : List CarrierId :=
  match s.role u with
  | .traffic => u :: (s.mirrorOf u).toList
  | .standby => u :: (s.mirrorOf u).toList
  | .off => []
  | .mirror _ => []

/-- The mirror partner of a carrier (R21). -/
def State.partner (s : State) (k : CarrierId) : Option CarrierId :=
  match s.role k with
  | .mirror p => some p
  | .traffic => s.mirrorOf k
  | .standby => none
  | .off => none

/-- Is unit `u` a mirror pair? -/
def State.isPair (s : State) (u : UnitId) : Bool := (s.members u).length == 2

/-! ## Link states (R24, R125) -/

/-- Link state of a carrier. -/
def State.link (s : State) (k : CarrierId) : LinkState := (s.clc.get k).link

/-- Is the carrier LOCKED? -/
def State.isLocked (s : State) (k : CarrierId) : Bool := s.link k == .locked

/-- Is the carrier LOCKED and joined? -/
def State.isJoined (s : State) (k : CarrierId) : Bool := s.isLocked k && (s.clc.get k).joined

/-- WAKING, ACQUIRE, LOCKED or HOLDOFF (R24). -/
def LinkState.awake (x : LinkState) : Bool :=
  match x with
  | .waking => true
  | .acquire => true
  | .locked => true
  | .holdoff => true
  | .down => false
  | .parked => false

/-- Is the carrier awake (R24)? -/
def State.isAwake (s : State) (k : CarrierId) : Bool := (s.link k).awake

/-- The awake count (R24). -/
def State.awakeCount (s : State) : Nat := ids.countP s.isAwake

/-- Is a member of the unit LOCKED? -/
def State.unitLocked (s : State) (u : UnitId) : Bool := (s.members u).any s.isLocked

/-- Is a member of `k`'s unit other than `k` LOCKED? -/
def State.otherLocked (s : State) (k : CarrierId) : Bool :=
  match s.unitOf k with
  | some u => (s.members u).any fun m => m != k && s.isLocked m
  | none => false

/-- Service carrier of a unit: the primary if LOCKED, else the mirror if LOCKED, else the primary (R14). -/
def State.serviceCarrier (s : State) (u : UnitId) : CarrierId :=
  if s.isLocked u then u
  else
    match s.mirrorOf u with
    | some m => if s.isLocked m then m else u
    | none => u

/-- Change the state of one Carrier Link Controller. -/
def State.setClc (s : State) (k : CarrierId) (f : Clc → Clc) : State := { s with clc := s.clc.modify k f }

/-- Change the context of one unit of the Adaptation Engine. -/
def State.setAde (s : State) (u : UnitId) (f : Ade → Ade) : State := { s with ade := s.ade.modify u f }

/-- Change one Fade Tracker. -/
def State.setFtr (s : State) (k : CarrierId) (f : Ftr → Ftr) : State := { s with ftr := s.ftr.modify k f }

/-- Change one Tenant Link Interface. -/
def State.setLink (s : State) (t : TenantId) (f : Tli → Tli) : State := { s with links := s.links.modify t f }

/-- Is the hop HOP_UP (R7)? -/
def State.hopUp (s : State) : Bool := s.htu.anchor.isSome

/-- The lowest-numbered LOCKED carrier whose role is not OFF (R6). -/
def State.lowestLocked (s : State) : Option CarrierId := ids.find? fun k => s.role k != .off && s.isLocked k

/-- Timing source of the frame clock: none at a LEAD end, whose clock free-runs (R3); at a FOLLOW end as R4 gives. -/
def State.timingSource (s : State) : Option CarrierId :=
  if s.settings.endRole = .lead || s.htu.conflict then none
  else if s.hopUp then s.htu.anchor
  else ids.find? fun k => s.link k == .acquire && (s.ftr.get k).aligned

/-! ## Outbound service queues (R14, R15) -/

/-- Offer a message to the queue of carrier `k`; a full queue discards it (R15). -/
def State.offer (s : State) (k : CarrierId) (m : Message) : State :=
  { s with scu := s.scu.modify k fun x => if x.queue.length < serviceQueueDepth then { x with queue := x.queue ++ [m] } else x }

/-- Offer a message to the anchor's queue; without an anchor it is not offered (R14). -/
def State.offerAnchor (s : State) (m : Message) : State :=
  match s.htu.anchor with
  | some a => s.offer a m
  | none => s

/-- Empty the queue of carrier `k` (R15). -/
def State.clearQueue (s : State) (k : CarrierId) : State :=
  { s with scu := s.scu.modify k fun x => { x with queue := [] } }

/-- Count a service error on carrier `k` (R11, R17). -/
def State.serviceError (s : State) (k : CarrierId) : State :=
  { s with scu := s.scu.modify k fun x => { x with errors := satSucc32 x.errors } }

/-! ## Mode, limits, holds (R108, R123, R124) and budget (R105) -/

/-- Cap, budget and active limit of the effective mode (R108). -/
def State.figures (s : State) : ModeFigures := s.settings.figures s.pbu.effective

/-- Local active limit (R108). -/
def State.localLimit (s : State) : Nat := s.figures.limit

/-- Effective active limit (R123). -/
def State.effLimit (s : State) : Nat :=
  match s.cpm.peerLimit with
  | some p => min s.localLimit p
  | none => s.localLimit

/-- Local hold: the maximum over the enrolled tenants (R124). -/
def State.localHold (s : State) : Nat :=
  ids.foldl (fun m t => if s.settings.enrolled t then max m (s.cpm.hold.get t) else m) 0

/-- Hop hold; an unknown peer hold counts as 0 (R124). -/
def State.hopHold (s : State) : Nat := max s.localHold (s.cpm.peerHold.getD 0)

/-- Effective hold (R124). -/
def State.effHold (s : State) : Nat := min s.hopHold s.effLimit

/-- Does the carrier cost budget: ACQUIRE or LOCKED (R105)? -/
def State.costs (s : State) (k : CarrierId) : Bool := s.link k == .acquire || s.link k == .locked

/-- Budget units of carrier `k` (R105). -/
def State.cost (s : State) (k : CarrierId) : Nat := if s.costs k then s.pbu.level.get k + 1 else 0

/-- The budget in use (R105). -/
def State.budgetInUse (s : State) : Nat := (Four.build s.cost).sum

/-- The room: the budget less the budget in use (R110). -/
def State.room (s : State) : Nat := s.figures.budget - s.budgetInUse

/-- Start level reduced to the cap of the effective mode (R110). -/
def State.startLevel (s : State) : Nat := min s.settings.startLevel s.figures.cap

/-- Set the level of carrier `k`; SET_LEVEL is sent if the modem is powered (R104). -/
def State.setLevel (s : State) (k : CarrierId) (n : Nat) : State :=
  let s' := { s with pbu := { s.pbu with level := s.pbu.level.set k n } }
  if s.link k = .down then s' else s'.command k (.setLevel n)

/-- SETTLING_CHANGE: the settling indication is cleared once the awake count is at or below the effective active limit; the
clearing raises POWER for every tenant (R118). -/
def State.settleCheck (s : State) : State :=
  if s.pbu.settling && s.awakeCount ≤ s.effLimit then
    { s with pbu := { s.pbu with settling := false } }.raiseAll flagPower
  else s

/-! ## Acting roles, units in service, hop capacity (R125, R140) -/

/-- Does unit `u` act TRAFFIC (R125)? -/
def State.actsTraffic (s : State) (u : UnitId) : Bool := s.cpm.acting.get u == some .traffic

/-- Number of awake TRAFFIC units, with carrier `c` counted as not awake if given (R125). -/
def State.awakeTrafficUnits (s : State) (c : Option CarrierId) : Nat :=
  ids.countP fun u => s.actsTraffic u && (s.members u).any fun m => s.isAwake m && some m != c

/-- Is the unit draining (R93)? -/
def State.isDraining (s : State) (u : UnitId) : Bool := s.plc.draining.get u

/-- Is a member of the unit LOCKED and joined? -/
def State.unitJoined (s : State) (u : UnitId) : Bool := (s.members u).any s.isJoined

/-- Is the unit in service (R140)? -/
def State.inService (s : State) (u : UnitId) : Bool := s.unitJoined u && s.actsTraffic u && !s.isDraining u

/-- Blocks per frame of a unit's transmit profile. -/
def State.unitBlocks (s : State) (u : UnitId) : Nat := s.settings.blocks (s.plc.txProfile.get u)

/-- The hop capacity of the present units (R140). -/
def State.capacityNow (s : State) : Nat :=
  (Four.build fun u => if s.inService u then s.unitBlocks u else 0).sum

/-- The hop capacity that counts every LOCKED carrier as joined (R142). -/
def State.capacityAtRenewal (s : State) : Nat :=
  (Four.build fun u => if s.unitLocked u && s.actsTraffic u && !s.isDraining u then s.unitBlocks u else 0).sum

/-- CREDIT_RESCALE: floor(credit × C_new / C_old), 0 where C_new is 0 (R143). -/
def rescale (old new credit : Nat) : Nat := if new = 0 then 0 else credit * new / old

/-- The Transmit Scheduler forms C afresh: a fall rescales the credits, a rise leaves them, and each change raises CAPACITY
for every tenant (R140, R143). -/
def State.formCapacity (s : State) : State :=
  let old := s.sched.capacity
  let new := s.capacityNow
  if new = old then s
  else
    { s with sched := { s.sched with
        capacity := new
        credit := if new < old then s.sched.credit.map (rescale old new) else s.sched.credit } }.raiseAll flagCapacity

/-! ## Plan reads (R78, R79) -/

/-- The unit an entry counts under; a named carrier outside every unit gives none (R79). -/
def State.unitOfChange (s : State) (c : Change) : Option UnitId :=
  match c with
  | .txProfile u _ => some u
  | .rxProfile u _ => some u
  | .link (.park c) => s.unitOf c
  | .link (.wake c) => s.unitOf c
  | .link (.promote c _) => s.unitOf c
  | .link (.revert c _) => s.unitOf c

/-- The units a LINK change touches (R79). -/
def State.touches (s : State) (c : LinkChange) : List UnitId :=
  match c with
  | .park c => (s.unitOf c).toList
  | .wake c => (s.unitOf c).toList
  | .promote c t => (s.unitOf c).toList ++ (s.unitOf t).toList
  | .revert c t => (s.unitOf c).toList ++ (s.unitOf t).toList

/-- The LINK change of an entry. -/
def Entry.link? (e : Entry) : Option LinkChange :=
  match e.change with
  | .link c => some c
  | .txProfile _ _ => none
  | .rxProfile _ _ => none

/-- Is it an RX_PROFILE entry? -/
def Entry.isRx (e : Entry) : Bool :=
  match e.change with
  | .rxProfile _ _ => true
  | .txProfile _ _ => false
  | .link _ => false

/-- Is it the RX_PROFILE entry of unit `u`? -/
def Entry.isRxOf (u : UnitId) (e : Entry) : Bool :=
  match e.change with
  | .rxProfile v _ => v == u
  | .txProfile _ _ => false
  | .link _ => false

/-- Is it the TX_PROFILE entry of unit `u`? -/
def Entry.isTxOf (u : UnitId) (e : Entry) : Bool :=
  match e.change with
  | .txProfile v _ => v == u
  | .rxProfile _ _ => false
  | .link _ => false

/-- A LINK entry that touches unit `u`. -/
def State.entryTouches (s : State) (u : UnitId) (e : Entry) : Bool :=
  match e.link? with
  | some c => (s.touches c).contains u
  | none => false

/-- Does a LINK entry touch unit `u`? -/
def State.linkTouches (s : State) (u : UnitId) : Bool := s.plc.plan.any (s.entryTouches u)

/-- Does a LINK entry touch a unit that the change would touch (R83, R85)? -/
def State.linkPending (s : State) (c : LinkChange) : Bool := (s.touches c).any s.linkTouches

/-- Is it a WAKE entry, of carrier `c` if given? -/
def Entry.isWake (c : Option CarrierId) (e : Entry) : Bool :=
  match e.change with
  | .link (.wake d) => c.isNone || c == some d
  | _ => false

/-- Is it a PARK entry naming carrier `c`? -/
def Entry.isParkOf (c : CarrierId) (e : Entry) : Bool :=
  match e.change with
  | .link (.park d) => d == c
  | _ => false

/-- Sort key of an entry: distance of its target after the current HSN, after all of them without one (R79). -/
def planKey (now : Hsn) (e : Entry) : Nat :=
  match e.target with
  | some h => hsnDistance now h
  | none => 65536

/-- Insert before the first entry of a greater key: equal keys keep their order. -/
def insertByKey (now : Hsn) (e : Entry) (es : List Entry) : List Entry :=
  match es with
  | [] => [e]
  | x :: rest => if planKey now e < planKey now x then e :: x :: rest else x :: insertByKey now e rest

/-- The plan in plan order (R79): by target, then by creation. -/
def planOrder (now : Hsn) (es : List Entry) : List Entry := es.foldl (fun acc e => insertByKey now e acc) []

/-! ## The frame of every event -/

/-- The transmitter of a link, when it is free and the link is UP, starts the waiting reply, else the waiting NOTICE, else
the egress head packet (R187). -/
def startTransmitter (egress : List EgressPacket) (x : Tli) : Tli :=
  if x.up && x.tx.isNone then
    match x.reply, x.notice, egress with
    | some p, _, _ => { x with reply := none, tx := some ⟨.reply, 0, p⟩ }
    | none, some p, _ => { x with notice := none, tx := some ⟨.notice, 0, p⟩ }
    | none, none, p :: _ => { x with tx := some ⟨.egress, laneNumber p.lane, p.data⟩ }
    | none, none, [] => x
  else x

/-- Every free transmitter starts what waits for it (R187; log 15). -/
def State.startTransmitters (s : State) : State :=
  { s with links := Four.build fun t => startTransmitter (s.rxa.egress.get t) (s.links.get t) }

/-- An event taken in any phase: the outputs of the step begin empty (log 13), and the free transmitters start last. -/
def anyEvent (s : State) (f : State → State) : Host.Outcome State Fault Refusal :=
  .next (f { s with out := [] }).startTransmitters

/-- An event that the part takes only once it runs; before that it is discarded (R197; log 11). -/
def event (s : State) (f : State → State) : Host.Outcome State Fault Refusal :=
  anyEvent s fun s => if s.running then f s else s

/-- A step on an empty queue: the frame clock counts the next frame of the superframe, up to frame 63; the frame 0 that follows
is the command SUPERFRAME_BOUNDARY (R1; log 3). -/
def State.idle (s : State) : State :=
  let n := s.htu.frame
  if s.running && n < 63 then { s with out := [], htu := { s.htu with frame := n + 1 } } else { s with out := [] }

end Sys2Proof.Machine
end

