-- ==== Sys2Proof/Machine/Staging.lean ====
section
/-! DEFINITION. Lanes, binding, building of blocks and refill (R145–R149, R159, R164–R167): functions of the scheduler's
own state and of a small environment read from the other blocks. -/

namespace Sys2Proof.Machine

/-! ## Environment -/

/-- What a refill reads from the other blocks. -/
structure SchedEnv where
  /-- units in service (R140) -/
  inService : Four Bool
  /-- staging target of each unit (R144) -/
  target : Four Nat
  /-- unit that each carrier of an eligible set names, after substitution (R159) -/
  names : Four (Option UnitId)
  /-- tenants enrolled -/
  enrolled : Four Bool
  /-- excess weights -/
  weight : Four Nat
  deriving DecidableEq, Repr

/-- The unit that carrier `k` of an eligible set names: a carrier replaced by a substitute names the substitute's unit, an
OFF carrier names none (R159). -/
def State.namedUnit (s : State) (k : CarrierId) : Option UnitId :=
  match s.cpm.subs.find? fun r => r.t == k with
  | some r => s.unitOf r.s
  | none => s.unitOf k

/-- The environment of a refill. -/
def State.env (s : State) : SchedEnv where
  inService := .build s.inService
  target := .build fun u => min (3 * s.unitBlocks u) stagingSize
  names := .build s.namedUnit
  enrolled := .build s.settings.enrolled
  weight := .build s.settings.weight

/-! ## Lanes -/

/-- A lane of a tenant. -/
def Sched.lane (x : Sched) (t : TenantId) (l : LaneIx) : Lane := (x.lanes.get t)[l.val]

/-- Change a lane of a tenant. -/
def Sched.setLane (x : Sched) (t : TenantId) (l : LaneIx) (f : Lane → Lane) : Sched :=
  { x with lanes := x.lanes.modify t fun v => v.set l.val (f v[l.val]) }

/-- The lanes in increasing order. -/
def laneIds : List LaneIx := List.finRange 31

/-- The lanes from `p` on, wrapping (R146). -/
def lanesFrom (p : LaneIx) : List LaneIx := laneIds.map fun i => p + i

/-- The tenants from `p` on, wrapping (R146). -/
def tenantsFrom (p : TenantId) : List TenantId := ids.map fun i => p + i

/-- All lanes of all tenants. -/
def allLanes : List (TenantId × LaneIx) := ids.flatMap fun t => laneIds.map fun l => (t, l)

/-- The governing entry: the in-force copy while bound, the written entry while unbound (R157). -/
def Lane.governing (x : Lane) : LaneEntry :=
  match x.bound with
  | some b => b.entry
  | none => x.written

/-- Length of a packet. -/
def Packet.length (p : Packet) : Nat := p.data.length

/-- Buffer units of a packet (R162). -/
def Packet.units (p : Packet) : Nat := ceilDiv p.length 64

/-- The lane's packet: the oldest with bytes not yet staged (R145). -/
def Lane.nextPacket (x : Lane) : Option Packet := x.queue.find? fun p => p.staged < p.length

/-- The packet record with a number. -/
def Lane.packet (x : Lane) (id : Nat) : Option Packet := x.queue.find? fun p => p.id == id

/-- Does carrier set `e` name unit `u` (R159)? -/
def SchedEnv.eligible (env : SchedEnv) (e : Four Bool) (u : UnitId) : Bool :=
  ids.any fun k => e.get k && env.names.get k == some u

/-! ## Staging reads -/

/-- Blocks of an open pair frame record: its traffic blocks. That its idle positions do not count among the blocks that a staging holds
(the 256 and the target of R144, the tests of R86 and R154) is the model's choice (log 50). -/
def Staging.recordBlocks (g : Staging) : List Block :=
  match g.record with
  | some r => r.blocks.filterMap id
  | none => []

/-- Blocks the staging holds, the pair frame record included (R144). -/
def Staging.held (g : Staging) : Nat := g.assured.length + g.other.length + g.recordBlocks.length

/-- Is the staging below target (R144)? -/
def Sched.belowTarget (env : SchedEnv) (x : Sched) (u : UnitId) : Bool := (x.staging.get u).held < env.target.get u

/-- Is it a block of the lane? -/
def Block.ofLane (t : TenantId) (l : LaneIx) (b : Block) : Bool := b.tenant == t && b.lane == l

/-- Does the lane hold a block in the unit's staging, an open pair frame record counted (R167)? -/
def Staging.holdsLane (g : Staging) (t : TenantId) (l : LaneIx) : Bool :=
  g.assured.any (Block.ofLane t l) || g.other.any (Block.ofLane t l) || g.recordBlocks.any (Block.ofLane t l)

/-- The segment of a class: Assured for ASSURED, Other for ELASTIC and BULK (R144). -/
def Staging.segment (g : Staging) (c : LaneClass) : List Block :=
  match c with
  | .assured => g.assured
  | .elastic => g.other
  | .bulk => g.other

/-- Replace the segment of a class. -/
def Staging.setSegment (g : Staging) (c : LaneClass) (bs : List Block) : Staging :=
  match c with
  | .assured => { g with assured := bs }
  | .elastic => { g with other := bs }
  | .bulk => { g with other := bs }

/-- The continuation of a class's segment. -/
def Staging.cont (g : Staging) (c : LaneClass) : Option Continuation :=
  match c with
  | .assured => g.contAssured
  | .elastic => g.contOther
  | .bulk => g.contOther

/-- Replace the continuation of a class's segment. -/
def Staging.setCont (g : Staging) (c : LaneClass) (k : Option Continuation) : Staging :=
  match c with
  | .assured => { g with contAssured := k }
  | .elastic => { g with contOther := k }
  | .bulk => { g with contOther := k }

/-- Drop continuations that `p` names. -/
def Staging.dropConts (g : Staging) (p : Continuation → Bool) : Staging :=
  { g with contAssured := g.contAssured.filter fun c => !p c, contOther := g.contOther.filter fun c => !p c }

/-- Drop continuations in every staging. -/
def Sched.dropConts (x : Sched) (p : Continuation → Bool) : Sched :=
  { x with staging := x.staging.map (·.dropConts p) }

/-- First byte after a block's last fragment, if the block is open: its last fragment carries LAST, it has free bytes and
fewer than four fragments (R149). -/
def Block.openEnd (b : Block) : Option Nat :=
  match b.frags.getLast? with
  | some f => if f.last && b.frags.length < 4 && f.off + f.len < 64 then some (f.off + f.len) else none
  | none => none

/-- The open block of a lane in a segment: its last staged block, if open (R149). -/
def openEndOf (t : TenantId) (l : LaneIx) (bs : List Block) : Option Nat :=
  match bs.reverse.find? (Block.ofLane t l) with
  | some b => b.openEnd
  | none => none

/-- Bytes free in the lane's open block, 0 when there is none (R149). -/
def freeBytes (t : TenantId) (l : LaneIx) (bs : List Block) : Nat :=
  match openEndOf t l bs with
  | some e => 64 - e
  | none => 0

/-! ## Building blocks (R149) -/

/-- Add a fragment to the last block of the lane; the argument lists the segment from its tail. -/
def appendFragRev (t : TenantId) (l : LaneIx) (f : Frag) (rev : List Block) : List Block :=
  match rev with
  | [] => []
  | b :: rest => if b.ofLane t l then { b with frags := b.frags ++ [f] } :: rest else b :: appendFragRev t l f rest

/-- Up to `n` new blocks from the packet bytes `data`, the first of them starting the packet if `first` (R149). -/
def newBlocks (t : TenantId) (l : LaneIx) (id : Nat) (phase : Phase) (n : Nat) (seq : Seq) (first : Bool) (data : List Byte) :
    List Block :=
  match n with
  | 0 => []
  | n + 1 =>
    if data.isEmpty then []
    else
      let rest := data.drop 64
      let here := data.take 64
      ⟨t, l, seq, [⟨0, here.length, first, rest.isEmpty, id, phase, here⟩]⟩
        :: newBlocks t l id phase n (seq + 1) false rest

/-- Blocks needed to stage the rest of a packet whole, given the free bytes of a usable open block (R149). -/
def blocksNeeded (p : Packet) (free : Nat) : Nat := ceilDiv (p.length - p.staged - free) 64

/-- Lower a credit; it never goes below 0 (R146). -/
def Sched.charge (x : Sched) (t : TenantId) (phase : Phase) (n : Nat) : Sched :=
  match phase with
  | .committedAssured => { x with credit := x.credit.modify t (· - n) }
  | .committedElastic => { x with credit := x.credit.modify t (· - n) }
  | .excess => x

/-- Stage a packet of lane (t, l) on unit `u`: fill the lane's open block, then append new blocks as the room allows; what is
left over becomes the segment's continuation (R148, R149). The staging binds an unbound lane (R166), clears its empty mark
(R167), sets its stall timer to 0 (R168) and is charged by its phase (R146). Answers the number of new blocks too. -/
def Sched.stagePacket (x : Sched) (u : UnitId) (t : TenantId) (l : LaneIx) (p : Packet) (phase : Phase) : Sched × Nat :=
  let lane := x.lane t l
  let cls := lane.governing.cls
  let g := x.staging.get u
  let seg := g.segment cls
  let unstaged := p.data.drop p.staged
  let free := freeBytes t l seg
  let fill := unstaged.take free
  let rest := unstaged.drop free
  let seg := match openEndOf t l seg with
    | some e =>
      (appendFragRev t l ⟨e, fill.length, p.staged == 0, rest.isEmpty, p.id, phase, fill⟩ seg.reverse).reverse
    | none => seg
  let bs := newBlocks t l p.id phase (stagingSize - g.held) lane.seq (p.staged == 0 && fill.isEmpty) rest
  let left := rest.drop (64 * bs.length)
  let staged := p.length - left.length
  let touched := staged != p.staged
  let g := g.setSegment cls (seg ++ bs)
  let g := if left.isEmpty then
      (if (g.cont cls).any fun c => c.pkt == p.id then g.setCont cls none else g)
    else g.setCont cls (some ⟨t, l, p.id, phase⟩)
  let x := { x with staging := x.staging.set u g }
  let x := x.setLane t l fun y => { y with
    queue := y.queue.map fun q => if q.id == p.id then { q with staged := staged } else q
    seq := y.seq + BitVec.ofNat 4 bs.length
    timer := if touched then 0 else y.timer
    emptyMark := if touched then false else y.emptyMark
    bound := if touched then (match y.bound with | some b => some b | none => some ⟨u, y.written⟩) else y.bound }
  (x.charge t phase bs.length, bs.length)

/-! ## Refill (R145–R148) -/

/-- The binding rule: for an unbound lane the lowest-numbered of its eligible units that is in service and whose staging is
below target (R166). -/
def Sched.bindingChoice (env : SchedEnv) (x : Sched) (lane : Lane) : Option UnitId :=
  ids.find? fun u => env.eligible lane.governing.eligible u && env.inService.get u && x.belowTarget env u

/-- Is the lane a candidate for unit `u` (R145)? -/
def Sched.candidate (env : SchedEnv) (x : Sched) (u : UnitId) (t : TenantId) (l : LaneIx) : Bool :=
  let lane := x.lane t l
  env.enrolled.get t && lane.nextPacket.isSome &&
    (match lane.bound with
     | some b => b.unit == u
     | none => x.bindingChoice env lane == some u)

/-- Lane pointer of a class. -/
def LanePointers.get (p : LanePointers) (c : LaneClass) : LaneIx :=
  match c with
  | .assured => p.assured
  | .elastic => p.elastic
  | .bulk => p.bulk

/-- Set the lane pointer of a class. -/
def LanePointers.set (p : LanePointers) (c : LaneClass) (l : LaneIx) : LanePointers :=
  match c with
  | .assured => { p with assured := l }
  | .elastic => { p with elastic := l }
  | .bulk => { p with bulk := l }

/-- Tenant `t`'s first candidate lane of a class for `u`, from the class's lane pointer (R146), with its packet. -/
def Sched.firstLane (env : SchedEnv) (x : Sched) (u : UnitId) (c : LaneClass) (t : TenantId) : Option (LaneIx × Packet) :=
  match (lanesFrom ((x.lanePtr.get t).get c)).find? fun l => (x.lane t l).governing.cls == c && x.candidate env u t l with
  | some l => (x.lane t l).nextPacket.map fun p => (l, p)
  | none => none

/-- Bytes free in the open block the lane's next packet would fill. -/
def Sched.laneFree (x : Sched) (u : UnitId) (t : TenantId) (l : LaneIx) : Nat :=
  freeBytes t l ((x.staging.get u).segment (x.lane t l).governing.cls)

/-- Move a tenant's lane pointer of a class past lane `l` (R146). -/
def Sched.advanceLane (x : Sched) (t : TenantId) (c : LaneClass) (l : LaneIx) : Sched :=
  { x with lanePtr := x.lanePtr.modify t fun p => p.set c (l + 1) }

/-- What a committed phase would take at tenant `t`: its first candidate lane, if the credit covers the packet (R146). -/
def Sched.committedOffer (env : SchedEnv) (x : Sched) (u : UnitId) (c : LaneClass) (t : TenantId) :
    Option (TenantId × LaneIx × Packet) :=
  match x.firstLane env u c t with
  | some (l, p) => if blocksNeeded p (x.laneFree u t l) ≤ x.credit.get t then some (t, l, p) else none
  | none => none

/-- The committed ASSURED phase; none if it finds nothing (R146). -/
def Sched.pickAssured (env : SchedEnv) (x : Sched) (u : UnitId) : Option Sched :=
  match (tenantsFrom x.ptrAssured).findSome? (x.committedOffer env u .assured) with
  | some (t, l, p) =>
    let y := ((x.stagePacket u t l p .committedAssured).1).advanceLane t .assured l
    some { y with ptrAssured := t + 1 }
  | none => none

/-- The committed ELASTIC phase; none if it finds nothing (R146). -/
def Sched.pickElastic (env : SchedEnv) (x : Sched) (u : UnitId) : Option Sched :=
  match (tenantsFrom x.ptrElastic).findSome? (x.committedOffer env u .elastic) with
  | some (t, l, p) =>
    let y := ((x.stagePacket u t l p .committedElastic).1).advanceLane t .elastic l
    some { y with ptrElastic := t + 1 }
  | none => none

/-- The excess visit of tenant `t`: packets of the classes in order, each started while fewer than w_t blocks have been
staged in the visit and the unit is below target (R147). `fuel` bounds the packets and classes of one visit. -/
def Sched.visit (env : SchedEnv) (u : UnitId) (t : TenantId) (fuel : Nat) (classes : List LaneClass) (n : Nat) (x : Sched) :
    Sched :=
  match fuel, classes with
  | 0, _ => x
  | _, [] => x
  | fuel + 1, c :: cs =>
    match x.firstLane env u c t with
    | none => Sched.visit env u t fuel cs n x
    | some (l, p) =>
      if n < env.weight.get t && x.belowTarget env u then
        let r := x.stagePacket u t l p .excess
        Sched.visit env u t fuel (c :: cs) (n + r.2) (r.1.advanceLane t c l)
      else x

/-- The classes in the order of the excess phase (R147). -/
def classOrder : List LaneClass := [.assured, .elastic, .bulk]

/-- Has tenant `t` a candidate lane of any class for `u`? -/
def Sched.hasCandidate (env : SchedEnv) (x : Sched) (u : UnitId) (t : TenantId) : Bool :=
  laneIds.any (x.candidate env u t)

/-- Number of packet records in all lane queues: bounds the picks of a refill, since each pick stages one packet whole or
fills the staging. -/
def Sched.packetCount (x : Sched) : Nat := (allLanes.map fun p => (x.lane p.1 p.2).queue.length).sum

/-- The excess phase; none if it finds nothing (R147). -/
def Sched.pickExcess (env : SchedEnv) (x : Sched) (u : UnitId) : Option Sched :=
  match (tenantsFrom x.ptrExcess).find? (x.hasCandidate env u) with
  | some t =>
    let y := Sched.visit env u t (x.packetCount + 3) classOrder 0 x
    some { y with ptrExcess := t + 1 }
  | none => none

/-- One pick: the first phase that finds a packet (R145). -/
def Sched.pick (env : SchedEnv) (x : Sched) (u : UnitId) : Option Sched :=
  match x.pickAssured env u with
  | some y => some y
  | none =>
    match x.pickElastic env u with
    | some y => some y
    | none => x.pickExcess env u

/-- Picks, one after another, while the unit stays below target (R145). -/
def Sched.picks (env : SchedEnv) (u : UnitId) (fuel : Nat) (x : Sched) : Sched :=
  match fuel with
  | 0 => x
  | fuel + 1 =>
    if x.belowTarget env u then
      match x.pick env u with
      | some y => Sched.picks env u fuel y
      | none => x
    else x

/-- Serve the continuation of a segment with as many blocks as the room allows (R148). -/
def Sched.serveCont (x : Sched) (u : UnitId) (c : LaneClass) : Sched :=
  match (x.staging.get u).cont c with
  | some k =>
    match (x.lane k.tenant k.lane).packet k.pkt with
    | some p => (x.stagePacket u k.tenant k.lane p k.phase).1
    | none => x
  | none => x

/-- Refill of one unit that is in service and below target (R145). -/
def Sched.refillUnit (env : SchedEnv) (x : Sched) (u : UnitId) : Sched :=
  if env.inService.get u && x.belowTarget env u then
    let y := (x.serveCont u .assured).serveCont u .elastic
    Sched.picks env u (y.packetCount + 1) y
  else x

/-- REFILL: every unit in increasing number (R145). -/
def Sched.refill (env : SchedEnv) (x : Sched) : Sched := ids.foldl (Sched.refillUnit env) x

/-- REFILL (R145). -/
def State.refill (s : State) : State := { s with sched := s.sched.refill s.env }

end Sys2Proof.Machine
end

