-- ==== Sys2Proof/Machine/Queues.lean ====
section
/-! DEFINITION. Admission, packet records, sending, discards, unbinding, stall timers (chapter 9) and the loss of a unit with
staged blocks (R150, R154, R155). -/

namespace Sys2Proof.Machine

/-! ## Buffer pool and packet records (R160–R165) -/

/-- Return a packet's units to the part of the pool they came from (R160). -/
def Sched.freeUnits (x : Sched) (t : TenantId) (p : Packet) : Sched :=
  match p.pool with
  | .reserve => { x with reserveHeld := x.reserveHeld.modify t (· - p.units) }
  | .shared => { x with sharedHeld := x.sharedHeld - p.units }

/-- Remove a packet record from its lane queue and free its units; an empty queue stops the stall timer at 0; a continuation
that names the packet goes with it (R148, R164, R165). -/
def Sched.removePacket (x : Sched) (t : TenantId) (l : LaneIx) (p : Packet) : Sched :=
  let y := (x.freeUnits t p).setLane t l fun z =>
    let q := z.queue.filter fun r => r.id != p.id
    { z with queue := q, timer := if q.isEmpty then 0 else z.timer }
  y.dropConts fun c => c.pkt == p.id

/-- Break of a lane's sequence: the counter is set to one more than the sequence of the first block that will never be sent
(R150). -/
def Sched.breakAt (x : Sched) (t : TenantId) (l : LaneIx) (first : Seq) : Sched :=
  x.setLane t l fun z => { z with seq := first + 1 }

/-- Break of a lane's sequence at the block that would have carried the abandoned packet's next byte (R150). -/
def Sched.breakNext (x : Sched) (t : TenantId) (l : LaneIx) : Sched := x.breakAt t l (x.lane t l).seq

/-- Admission threshold of a class in the shared pool of size `size` (R162). -/
def threshold (size : Nat) (c : LaneClass) : Nat :=
  match c with
  | .assured => size
  | .elastic => 3 * size / 4
  | .bulk => size / 2

/-- Where a packet of `u` units of tenant `t` on a lane of class `c` is admitted; none: no room (R162). -/
def State.admits (s : State) (t : TenantId) (c : LaneClass) (u : Nat) : Option Pool :=
  if u + s.sched.reserveHeld.get t ≤ s.settings.quota t then some .reserve
  else if s.sched.sharedHeld + u ≤ threshold s.settings.sharedSize c then some .shared
  else none

/-- Append an admitted packet's record to its lane queue, holding its units; a queue that was empty starts its stall timer at
0 (R162, R163). -/
def Sched.takeIn (x : Sched) (t : TenantId) (l : LaneIx) (data : List Byte) (pool : Pool) (now : Hsn) : Sched :=
  let p : Packet := ⟨x.nextPkt, data, pool, 0, 0, now⟩
  let x := match pool with
    | .reserve => { x with reserveHeld := x.reserveHeld.modify t (· + p.units) }
    | .shared => { x with sharedHeld := x.sharedHeld + p.units }
  let x := x.setLane t l fun z =>
    { z with queue := z.queue ++ [p], timer := if z.queue.isEmpty then 0 else z.timer }
  { x with nextPkt := x.nextPkt + 1 }

/-- TRAFFIC_ARRIVAL and ADMISSION (R161, R162, R163): a discard as LANE or POOL, or admission, PKT_IN and a refill. -/
def State.arrival (s : State) (t : TenantId) (l : LaneIx) (data : List Byte) : State :=
  let lane := s.sched.lane t l
  if !s.settings.enrolled t || !lane.written.valid then s.count t .lane
  else
    match s.admits t lane.governing.cls (ceilDiv data.length 64) with
    | some pool => ({ s with sched := s.sched.takeIn t l data pool s.htu.hsn }.count t .pktIn).refill
    | none => s.count t .pool

/-! ## Sending (R151, R164) -/

/-- A fragment has been carried: its bytes count as sent, and a packet whose LAST fragment is carried leaves its queue. -/
def Sched.sendFrag (t : TenantId) (l : LaneIx) (x : Sched) (f : Frag) : Sched :=
  let x := x.setLane t l fun z => { z with
    queue := z.queue.map fun p => if p.id == f.pkt then { p with sent := p.sent + f.len } else p }
  if f.last then
    match (x.lane t l).packet f.pkt with
    | some p => x.removePacket t l p
    | none => x
  else x

/-- The bytes of a block have been carried. -/
def Sched.sendBlock (x : Sched) (b : Block) : Sched := b.frags.foldl (Sched.sendFrag b.tenant b.lane) x

/-- The bytes of blocks have been carried, in order. -/
def Sched.sendBlocks (x : Sched) (bs : List Block) : Sched := bs.foldl Sched.sendBlock x

/-- Take up to `n` blocks from the head of the Assured segment and then of the Other segment of unit `u` (R151). -/
def Sched.takeHead (x : Sched) (u : UnitId) (n : Nat) : List Block × Sched :=
  let g := x.staging.get u
  let a := g.assured.take n
  let o := g.other.take (n - a.length)
  (a ++ o, { x with staging := x.staging.set u { g with assured := g.assured.drop n, other := g.other.drop (n - a.length) } })

/-! ## Unbinding (R167) -/

/-- Unbind a lane: the in-force copy goes, and a continuation that names a packet of the lane (R148, R167). -/
def Sched.unbind (x : Sched) (t : TenantId) (l : LaneIx) : Sched :=
  (x.setLane t l fun z => { z with bound := none, emptyMark := false }).dropConts fun c => c.tenant == t && c.lane == l

/-- Unbind every lane that `p` names. -/
def Sched.unbindWhere (x : Sched) (p : TenantId → LaneIx → Lane → Bool) : Sched :=
  allLanes.foldl (fun y q => if p q.1 q.2 (y.lane q.1 q.2) then y.unbind q.1 q.2 else y) x

/-- Is the lane bound to unit `u`? -/
def Lane.boundTo (u : UnitId) (z : Lane) : Bool :=
  match z.bound with
  | some b => b.unit == u
  | none => false

/-- Unbind every bound lane whose empty mark is set (R167). -/
def Sched.unbindMarked (x : Sched) : Sched := x.unbindWhere fun _ _ z => z.bound.isSome && z.emptyMark

/-- Set the empty mark of every bound lane that holds no block in its unit's staging (R167). -/
def Sched.markEmpty (x : Sched) : Sched :=
  allLanes.foldl (fun y q => y.setLane q.1 q.2 fun z =>
    match z.bound with
    | some b => if (y.staging.get b.unit).holdsLane q.1 q.2 then z else { z with emptyMark := true }
    | none => z) x

/-! ## Loss of a unit with staged blocks (R154) -/

/-- Close the pair frame record of a unit: its blocks were sent, and they leave the staging (R152). -/
def Sched.closeRecord (x : Sched) (u : UnitId) : Sched :=
  { x with staging := x.staging.modify u fun g => { g with record := none } }

/-- The packets that have bytes in a list of blocks, each once. -/
def packetsIn (bs : List Block) : List (TenantId × LaneIx × Nat) :=
  (bs.flatMap fun b => b.frags.map fun f => (b.tenant, b.lane, f.pkt)).dedup

/-- The lanes that have a block in a list, each with the sequence of its first block there. -/
def firstSeqs (bs : List Block) : List (TenantId × LaneIx × Seq) :=
  (bs.map fun b => (b.tenant, b.lane)).dedup.filterMap fun q =>
    (bs.find? (Block.ofLane q.1 q.2)).map fun b => (q.1, q.2, b.seq)

/-- A packet that lost staged bytes: back to no byte staged if it has sent none, else discarded as CARRIER (R154, R165). -/
def Sched.loseStaged (r : Sched × List (TenantId × CounterName)) (q : TenantId × LaneIx × Nat) :
    Sched × List (TenantId × CounterName) :=
  match (r.1.lane q.1 q.2.1).packet q.2.2 with
  | some p =>
    if p.sent = 0 then
      (r.1.setLane q.1 q.2.1 fun z => { z with
        queue := z.queue.map fun a => if a.id == p.id then { a with staged := 0 } else a }, r.2)
    else (r.1.removePacket q.1 q.2.1 p, r.2 ++ [(q.1, .carrier)])
  | none => r

/-- Break the sequence of every lane that lost blocks (R150). -/
def Sched.breakLanes (x : Sched) (qs : List (TenantId × LaneIx × Seq)) : Sched :=
  qs.foldl (fun y q => y.breakAt q.1 q.2.1 q.2.2) x

/-- UNIT_LEAVES_SERVICE_STAGED (R154): close the record, remove every block with continuations and open blocks, act on the
packets that lost bytes, break the sequences, unbind the unit's lanes. Answers the increments too. -/
def Sched.flushUnit (x : Sched) (u : UnitId) : Sched × List (TenantId × CounterName) :=
  let g := (x.staging.get u)
  let removed := g.assured ++ g.other
  let y := { x with staging := x.staging.set u .empty }
  let r := (packetsIn removed).foldl Sched.loseStaged (y, [])
  let y := r.1.breakLanes (firstSeqs removed)
  (y.unbindWhere fun _ _ z => z.boundTo u, r.2)

/-- Does the unit's staging, or its pair frame record, hold blocks (R154)? -/
def Sched.holdsBlocks (x : Sched) (u : UnitId) : Bool := (x.staging.get u).held != 0

/-- R154 where the unit holds staged blocks: the flush, with C formed afresh before the refill that the unbinding causes; a
unit without staged blocks loses nothing, and its lanes unbind under the boundary rule. That discards are counted before C is formed
is the model's choice (log 51). -/
def State.loseUnit (s : State) (u : UnitId) : State :=
  if s.sched.holdsBlocks u then
    let r := s.sched.flushUnit u
    (({ s with sched := r.1 }.countAll r.2).formCapacity).refill
  else s.formCapacity

/-! ## Pair frame record (R152) -/

/-- The record of unit `u` closes once every member that is LOCKED and joined has taken it. -/
def State.closeIfTaken (s : State) (u : UnitId) : State :=
  match (s.sched.staging.get u).record with
  | some r =>
    if (s.members u).all fun m => !s.isJoined m || r.takenBy.contains m then { s with sched := s.sched.closeRecord u } else s
  | none => s

/-! ## Stall timers (R168–R170) -/

/-- The eligible carriers of a lane: the members of its eligible units, and the OFF carriers its set names (R159). -/
def State.eligibleCarriers (s : State) (e : Four Bool) : List CarrierId :=
  ids.filter fun k =>
    (e.get k && s.role k == .off) ||
      ids.any fun j => e.get j && (match s.namedUnit j with | some u => (s.members u).contains k | none => false)

/-- STALL_DISCARD of a lane's head packet: its sequence is broken if it has sent a byte but not its last (R165, R150). -/
def State.stallDiscard (s : State) (t : TenantId) (l : LaneIx) (p : Packet) : State :=
  let x := if 0 < p.sent && p.sent < p.length then s.sched.breakNext t l else s.sched
  { s with sched := x.removePacket t l p }.count t .stall

/-- STALL_LIMIT: the lane acts by the stall mode of its governing entry, and its timer is set to 0 (R168, R169, R170). A lane
whose timer is below its limit, or whose queue is empty, does nothing. -/
def State.stallLimit (s : State) (t : TenantId) (l : LaneIx) : State :=
  let z := s.sched.lane t l
  let e := z.governing
  match z.queue with
  | [] => s
  | p :: _ =>
    if z.timer < e.limit then s
    else
      let s := { s with sched := s.sched.setLane t l fun z => { z with timer := 0 } }
      match e.stall with
      | .watchdog => if p.staged = 0 then s.stallDiscard t l p else s
      | .hold =>
        if (s.eligibleCarriers e.eligible).all fun k => s.role k == .off || s.link k == .down then s.stallDiscard t l p
        else s

/-- Advance of a stall timer at a boundary, up to 255, while the queue holds a packet (R168). -/
def Lane.tick (z : Lane) : Lane := if z.queue.isEmpty then z else { z with timer := min (z.timer + 1) 255 }

/-- Has the lane's stall timer reached the limit (R168)? -/
def Lane.stalled (z : Lane) : Bool := !z.queue.isEmpty && z.governing.limit ≤ z.timer

/-! ## Backlog and stranded lanes (R131, R173) -/

/-- Buffer units of a packet not yet staged. -/
def Packet.unstagedUnits (p : Packet) : Nat := ceilDiv (p.length - p.staged) 64

/-- Backlog: unstaged units over the packets of ASSURED and ELASTIC lanes (R131). -/
def Sched.backlog (x : Sched) : Nat :=
  (allLanes.map fun q =>
    let z := x.lane q.1 q.2
    if z.governing.cls = .bulk then 0 else (z.queue.map Packet.unstagedUnits).sum).sum

/-! ## Tenant reset (R155, R172) -/

/-- The staging without tenant `t`'s blocks; the record keeps its positions, which then are idle (R155). -/
def Staging.dropTenant (g : Staging) (t : TenantId) : Staging :=
  let g := g.dropConts fun c => c.tenant == t
  { g with
    assured := g.assured.filter fun b => b.tenant != t
    other := g.other.filter fun b => b.tenant != t
    record := g.record.map fun r => { r with blocks := r.blocks.map fun b => b.filter fun b => b.tenant != t } }

/-- First of a lane's blocks in the segments of any unit: the first that will never be sent (R150). -/
def Sched.firstStaged (x : Sched) (t : TenantId) (l : LaneIx) : Option Block :=
  (ids.flatMap fun u => (x.staging.get u).assured ++ (x.staging.get u).other).find? (Block.ofLane t l)

/-- Does an open pair frame record hold a block of the lane (R155)? -/
def Sched.recorded (x : Sched) (t : TenantId) (l : LaneIx) : Bool :=
  ids.any fun u => (x.staging.get u).recordBlocks.any (Block.ofLane t l)

/-- A lane at its tenant's reset: its sequence is broken if it lost blocks of a segment, whose first is `first`, or of an open pair
frame record (`recorded`), or held a packet partly sent; its packets and its binding go; its stall timer stops at 0 (R155, R172;
log 17). -/
def Lane.resetTenant (first : Option Block) (recorded : Bool) (z : Lane) : Lane :=
  let seq := match first with
    | some b => b.seq + 1
    | none => if recorded || z.queue.any fun p => 0 < p.sent then z.seq + 1 else z.seq
  { z with seq := seq, queue := [], bound := none, emptyMark := false, timer := 0 }

/-- Shared units held by a tenant's packets. -/
def Sched.sharedOf (x : Sched) (t : TenantId) : Nat :=
  (laneIds.map fun l => ((x.lane t l).queue.map fun p => if p.pool = .shared then p.units else 0).sum).sum

/-- TENANT_RESET_LANES without its refill (R155, R172). -/
def Sched.resetTenant (x : Sched) (t : TenantId) : Sched :=
  let y := laneIds.foldl (fun y l => y.setLane t l (Lane.resetTenant (x.firstStaged t l) (x.recorded t l))) x
  { y with
    staging := y.staging.map (·.dropTenant t)
    lanePtr := y.lanePtr.set t ⟨0, 0, 0⟩
    reserveHeld := y.reserveHeld.set t 0
    sharedHeld := y.sharedHeld - x.sharedOf t }

end Sys2Proof.Machine
end

