-- ==== Sys2Proof/Machine/Receive.lean ====
section
/-! DEFINITION. The Receive Assembler (chapter 10): copy selection, the reassembly cache, egress. -/

namespace Sys2Proof.Machine

/-- What the assembler reads from other blocks. -/
structure RxEnv where
  /-- tenants enrolled -/
  enrolled : Four Bool
  /-- tenant links UP -/
  up : Four Bool
  deriving DecidableEq, Repr

/-- Increments handed to the Tenant Link Interfaces, in order. -/
abbrev Increments := List (TenantId × CounterName)

/-! ## Egress (R181) -/

/-- Egress units of a packet of `n` bytes (R181). -/
def egressCost (n : Nat) : Nat := ceilDiv n 64

/-- Units held in an egress buffer (R174). -/
def unitsHeld (ps : List EgressPacket) : Nat := (ps.map fun p => egressCost p.data.length).sum

/-- PACKET_COMPLETION: a completed packet joins egress, or is discarded as LANE, LINK_DOWN or EGRESS (R181). -/
def complete (env : RxEnv) (x : Rxa) (t : TenantId) (l : LaneIx) (data : List Byte) : Rxa × Increments :=
  if !env.enrolled.get t then (x, [(t, .lane)])
  else if !env.up.get t then (x, [(t, .linkDown)])
  else if egressUnits < unitsHeld (x.egress.get t) + egressCost data.length then (x, [(t, .egress)])
  else ({ x with egress := x.egress.modify t (· ++ [⟨l, data⟩]) }, [])

/-! ## Fragments into a way (R179) -/

/-- Progress through a block: the bytes of the way (none: FREE), the packets completed, the increments, and whether the rest
of the block is dropped. -/
structure FragRun where
  /-- bytes collected, none while the way is FREE -/
  data : Option (List Byte)
  /-- packets completed, in order -/
  done : List (List Byte)
  /-- RX_LOSS discards -/
  losses : Nat
  /-- the rest of the block is dropped -/
  stop : Bool
  deriving DecidableEq, Repr

/-- Append a fragment's bytes to what the way holds; more than 2048 bytes discard the packet and the rest of the block; LAST
completes it (R179). -/
def FragRun.append (r : FragRun) (have_ : List Byte) (f : RxFrag) : FragRun :=
  let all := have_ ++ f.data
  if 2048 < all.length then { r with data := none, losses := r.losses + 1, stop := true }
  else if f.last then { r with data := none, done := r.done ++ [all] }
  else { r with data := some all }

/-- One fragment (R179). -/
def FragRun.take (r : FragRun) (f : RxFrag) : FragRun :=
  if r.stop then r
  else
    match r.data, f.first with
    | none, true => r.append [] f
    | none, false => { r with stop := true }
    | some d, false => r.append d f
    | some _, true => { r with losses := r.losses + 1 }.append [] f

/-- A block's fragments, in order of offset. -/
def runFrags (data : Option (List Byte)) (fs : List RxFrag) : FragRun := fs.foldl FragRun.take ⟨data, [], 0, false⟩

/-! ## The cache (R178, R180) -/

/-- The set of a stream: (lane + 8 × tenant) mod 16. -/
def setIndex (t : TenantId) (l : LaneIx) : Fin 16 := ⟨(laneNumber l + 8 * t.val) % 16, Nat.mod_lt _ (by decide)⟩

/-- Is the way COLLECTING for (t, l)? -/
def wayIs (t : TenantId) (l : LaneIx) (w : Option Way) : Bool :=
  match w with
  | some w => w.tenant == t && w.lane == l
  | none => false

/-- The way that collects (t, l): false is way 0, true is way 1 (R178). -/
def CacheSet.find (c : CacheSet) (t : TenantId) (l : LaneIx) : Option Bool :=
  if wayIs t l c.way0 then some false else if wayIs t l c.way1 then some true else none

/-- A way of a set. -/
def CacheSet.way (c : CacheSet) (w : Bool) : Option Way := if w then c.way1 else c.way0

/-- Replace a way of a set. -/
def CacheSet.setWay (c : CacheSet) (w : Bool) (x : Option Way) : CacheSet :=
  if w then { c with way1 := x } else { c with way0 := x }

/-- The way that an allocation takes: a FREE one, way 0 first, else the LRU way (R180). -/
def CacheSet.victim (c : CacheSet) : Bool :=
  if c.way0.isNone then false else if c.way1.isNone then true else c.lru1

/-- RX_EVICT of the tenant whose packet in progress the allocation discards (R180). -/
def CacheSet.evicts (c : CacheSet) (w : Bool) : Increments :=
  match c.way w with
  | some x => [(x.tenant, .rxEvict)]
  | none => []

/-- A block is taken into way `w`, whose bytes so far are `data`: its fragments are run, the expected sequence is one more than
the block's, the way becomes the most recently used (R178, R179). -/
def Rxa.intoWay (env : RxEnv) (x : Rxa) (t : TenantId) (l : LaneIx) (seq : Seq) (fs : List RxFrag) (w : Bool)
    (data : Option (List Byte)) : Rxa × Increments :=
  let i := setIndex t l
  let c := x.sets[i.val]
  let r := runFrags data fs
  let c := { c.setWay w (r.data.map fun d => ⟨t, l, seq + 1, d⟩) with lru1 := !w }
  let x := { x with sets := x.sets.set i.val c }
  let start : Rxa × Increments := (x, List.replicate r.losses (t, .rxLoss))
  r.done.foldl (fun a d => let b := complete env a.1 t l d; (b.1, a.2 ++ b.2)) start

/-- A block with no way: allocated if its first fragment carries FIRST, else dropped (R178, R180). -/
def Rxa.afresh (env : RxEnv) (x : Rxa) (t : TenantId) (l : LaneIx) (seq : Seq) (fs : List RxFrag) : Rxa × Increments :=
  if (fs.head?).any RxFrag.first then
    let c := x.sets[(setIndex t l).val]
    let w := c.victim
    let b := x.intoWay env t l seq fs w none
    (b.1, c.evicts w ++ b.2)
  else (x, [])

/-- BLOCK_REASSEMBLY: a good traffic block of (t, l) (R178). -/
def Rxa.takeBlock (env : RxEnv) (x : Rxa) (t : TenantId) (l : LaneIx) (seq : Seq) (fs : List RxFrag) : Rxa × Increments :=
  let i := setIndex t l
  let c := x.sets[i.val]
  match c.find t l with
  | some w =>
    match c.way w with
    | some y =>
      if y.expect = seq then x.intoWay env t l seq fs w (some y.data)
      else
        let b := { x with sets := x.sets.set i.val (c.setWay w none) }.afresh env t l seq fs
        (b.1, (t, .rxLoss) :: b.2)
    | none => x.afresh env t l seq fs
  | none => x.afresh env t l seq fs

/-! ## Frames (R175–R177) -/

/-- The environment of the assembler. -/
def State.rxEnv (s : State) : RxEnv where
  enrolled := .build s.settings.enrolled
  up := s.links.map (·.up)

/-- A received traffic block of unit `u` is handed to the Carrier Pool Manager, saturating (R126). -/
def State.countTraffic (s : State) (u : UnitId) (n : Nat) : State :=
  { s with cpm := { s.cpm with traffic := s.cpm.traffic.modify u fun c => min (c + n) 12288 } }

/-- One block that leaves copy selection, of unit `u` (R175). -/
def State.takeRxBlock (u : UnitId) (s : State) (b : RxBlock) : State :=
  match classify b with
  | .bad => s
  | .idle => s
  | .traffic t l seq fs =>
    let r := s.rxa.takeBlock s.rxEnv t l seq fs
    ({ s with rxa := r.1 }.countTraffic u 1).countAll r.2

/-- The blocks of a frame go to reassembly, in position order. -/
def State.reassemble (s : State) (u : UnitId) (bs : List RxBlock) : State := bs.foldl (State.takeRxBlock u) s

/-- Is a block good: marked so by the modem, with a header that breaks no constraint of R12 (R175)? -/
def isSound (b : RxBlock) : Bool := classify b != .bad

/-- One position of two copies: the primary's copy if good, else the mirror's (R177). A copy marked good that breaks R12 is bad here as
everywhere in the Receive Assembler (R12; log 42). -/
def chooseCopy (a b : RxBlock) : RxBlock := if isSound a then a else b

/-- Two copies of a frame's blocks, by position; positions one copy lacks come from the other. -/
def chooseCopies (as bs : List RxBlock) : List RxBlock :=
  match as, bs with
  | [], bs => bs
  | as, [] => as
  | a :: as, b :: bs => chooseCopy a b :: chooseCopies as bs

/-- Does frame `a` count as the primary's copy beside `b`: MIRROR clear where the flags differ, else the member that the
provisioning names as primary (R177)? -/
def isPrimaryCopy (u : UnitId) (a b : HeldFrame) : Bool := if a.mirror = b.mirror then a.member == u else !a.mirror

/-- MIRROR_COMBINE of two frames of a pair with the same (HSN, frame) (R177). -/
def combine (u : UnitId) (a b : HeldFrame) : List RxBlock :=
  let p := if isPrimaryCopy u a b then a else b
  let m := if isPrimaryCopy u a b then b else a
  if a.profile = b.profile then chooseCopies p.blocks m.blocks else p.blocks

/-- Empty the frame hold of unit `u`. -/
def State.clearHold (s : State) (u : UnitId) : State := { s with rxa := { s.rxa with hold := s.rxa.hold.set u none } }

/-- A held frame goes to reassembly alone and the hold empties (R176). -/
def State.releaseHold (s : State) (u : UnitId) : State :=
  match s.rxa.hold.get u with
  | some f => (s.clearHold u).reassemble u f.blocks
  | none => s

/-- A frame with a good header that finds the hold of its pair empty (R176). -/
def State.intoHold (s : State) (u : UnitId) (f : HeldFrame) : State :=
  if s.otherLocked f.member then { s with rxa := { s.rxa with hold := s.rxa.hold.set u (some f) } }
  else s.reassemble u f.blocks

/-- MIRROR_FRAME_HOLD: a frame with a good header on a member of pair `u` (R176). -/
def State.pairFrame (s : State) (u : UnitId) (f : HeldFrame) : State :=
  match s.rxa.hold.get u with
  | none => s.intoHold u f
  | some h =>
    if h.member = f.member then (s.releaseHold u).intoHold u f
    else if h.hsn = f.hsn ∧ h.frame = f.frame then (s.clearHold u).reassemble u (combine u h f)
    else (s.releaseHold u).intoHold u f

/-- A bad header on member `k` of a pair: its blocks are dropped; a frame held from the same member is released (R176). -/
def State.pairBad (s : State) (u : UnitId) (k : CarrierId) : State :=
  match s.rxa.hold.get u with
  | some h => if h.member = k then s.releaseHold u else s
  | none => s

/-- The frame of a LOCKED carrier reaches the Receive Assembler: `header` none is a bad header. Blocks beyond the number its
profile gives are not blocks of the frame (R175; log 18). -/
def State.receiveFrame (s : State) (k : CarrierId) (header : Option Header) (blocks : List RxBlock) : State :=
  match s.unitOf k with
  | none => s
  | some u =>
    match header with
    | some h =>
      let bs := blocks.take (s.settings.blocks h.profile)
      if s.isPair u then s.pairFrame u ⟨k, h.hsn, h.frame, h.profile, h.mirror, bs⟩ else s.reassemble u bs
    | none => if s.isPair u then s.pairBad u k else s

/-! ## Tenant reset (R184) -/

/-- Free a way tagged with the tenant. -/
def freeWayOf (t : TenantId) (w : Option Way) : Option Way := w.filter fun x => x.tenant != t

/-- TENANT_RESET_RECEIVE: the tenant's ways become FREE and its egress is emptied, uncounted (R184). -/
def Rxa.resetTenant (x : Rxa) (t : TenantId) : Rxa :=
  { x with
    sets := (List.finRange 16).foldl (fun v i => v.set i.val
      { v[i.val] with way0 := freeWayOf t v[i.val].way0, way1 := freeWayOf t v[i.val].way1 }) x.sets
    egress := x.egress.set t [] }

end Sys2Proof.Machine
end

