-- ==== Sys2Proof/Machine/Plan.lean ====
section
/-! DEFINITION. Entries of the switch plan: creation, agreement, removal, draining marks, and the requests that the Adaptation
Engine and the Carrier Pool Manager make (R71, R78–R83, R90–R93, R100, R101, R103, R128). -/

namespace Sys2Proof.Machine

/-! ## Entries -/

/-- Change the state of the Plan Controller. -/
def State.setPlc (s : State) (f : Plc → Plc) : State := { s with plc := f s.plc }

/-- Is it a capacity-changing entry: every kind but RX_PROFILE (R103)? -/
def Entry.capacityChanging (e : Entry) : Bool := !e.isRx

/-- PLAN is raised for every tenant when a capacity-changing entry is among `es` (R103). -/
def State.planFlag (s : State) (es : List Entry) : State :=
  if es.any Entry.capacityChanging then s.raiseAll flagPlan else s

/-- Add an entry to the plan (R103). -/
def State.addEntry (s : State) (e : Entry) : State :=
  (s.setPlc fun p => { p with plan := p.plan ++ [e] }).planFlag [e]

/-- The unit's RX_PROFILE entry has left the plan: a unit in PROPOSING returns to STEADY (R71). -/
def State.endProposing (s : State) (u : UnitId) : State :=
  s.setAde u fun a => if a.state = .proposing then { a with state := .steady } else a

/-- Clear the draining mark of a unit. -/
def State.clearDraining (s : State) (u : UnitId) : State := s.setPlc fun p => { p with draining := p.draining.set u false }

/-- What the removal of an entry does beside the plan: an RX_PROFILE entry ends PROPOSING, an AGREED LINK entry clears its
draining mark (R71, R93). -/
def State.afterRemoval (s : State) (e : Entry) : State :=
  match e.change with
  | .rxProfile u _ => s.endProposing u
  | .txProfile _ _ => s
  | .link c =>
    if e.state = .agreed then
      match s.unitOfChange (.link c) with
      | some u => s.clearDraining u
      | none => s
    else s

/-- Remove the entries that `p` names from the plan list alone. -/
def State.eraseEntries (s : State) (p : Entry → Bool) : State :=
  (s.setPlc fun c => { c with plan := c.plan.filter fun e => !p e }).planFlag (s.plc.plan.filter p)

/-- Remove the entries that `p` names, with what each removal does; C is formed afresh, since a draining mark may have been
cleared (R91–R94, R100). -/
def State.removeEntries (s : State) (p : Entry → Bool) : State :=
  ((s.plc.plan.filter p).foldl State.afterRemoval (s.eraseEntries p)).formCapacity

/-- Set the draining mark that an AGREED PARK or REVERT sets; the unit then leaves service (R93, R153). -/
def State.markDraining (s : State) (c : LinkChange) : State :=
  match c with
  | .park k =>
    match s.unitOf k with
    | some u => if s.otherLocked k then s else (s.setPlc fun p => { p with draining := p.draining.set u true }).formCapacity
    | none => s
  | .revert k _ =>
    match s.unitOf k with
    | some u => (s.setPlc fun p => { p with draining := p.draining.set u true }).formCapacity
    | none => s
  | .wake _ => s
  | .promote _ _ => s

/-- The tag counter's value is taken and the counter moves on (R81). -/
def State.bumpTag (s : State) : State := s.setPlc fun p => { p with nextTag := p.nextTag + 1 }

/-! ## Profile proposals (R71, R81) -/

/-- PROFILE_PROPOSAL: "RX_PROFILE q for unit u" is handed to the Plan Controller, and the unit enters PROPOSING (R71, R81). -/
def State.proposeProfile (s : State) (u : UnitId) (q : Nat) : State :=
  let s := s.removeEntries (Entry.isRxOf u)
  let tag := s.plc.nextTag
  let s := (s.bumpTag).addEntry ⟨tag, .rxProfile u q, none, .local, .proposed, 0⟩
  let s := s.offer (s.serviceCarrier u) (.proposeRx tag u q)
  s.setAde u fun a => { a with upDwell := 0, state := .proposing }

/-! ## LINK requests (R82, R83) -/

/-- After a park of `c` no carrier would remain LOCKED: every other LOCKED carrier is named by an AGREED PARK, or there is
none (R83, R86). -/
def State.noLockedAfter (s : State) (c : CarrierId) : Bool :=
  ids.all fun k => k == c || !s.isLocked k || s.plc.plan.any fun e => e.isParkOf k && e.state == .agreed

/-- The awake count plus the AGREED WAKE entries is at or above the effective active limit (R82). -/
def State.wakeAtLimit (s : State) : Bool :=
  s.effLimit ≤ s.awakeCount + s.plc.plan.countP fun e => e.isWake none && e.state == .agreed

/-- The budget in use plus 5 units exceeds the budget (R82). -/
def State.wakeNoBudget (s : State) : Bool := s.figures.budget < s.budgetInUse + startCost

/-- R83 by kind. -/
def State.kindRefused (s : State) (c : LinkChange) : Bool :=
  match c with
  | .park k => s.noLockedAfter k
  | .wake _ => s.wakeAtLimit || s.wakeNoBudget
  | .promote _ _ => s.settings.endRole == .follow || !s.settings.promotion
  | .revert _ _ => s.settings.endRole == .follow || !s.settings.promotion

/-- Does the Plan Controller refuse a LINK request (R83)? -/
def State.linkRefused (s : State) (c : LinkChange) : Bool :=
  !s.hopUp || s.htu.conflict || s.linkPending c || s.kindRefused c

/-- LINK_REQUEST: refused, or a LOCAL PROPOSED entry with the next tag and a PROPOSE on the anchor (R83). -/
def State.linkRequest (s : State) (c : LinkChange) : State :=
  if s.linkRefused c then s
  else
    let tag := s.plc.nextTag
    ((s.bumpTag).addEntry ⟨tag, .link c, none, .local, .proposed, 0⟩).offerAnchor (.proposeLink tag c)

/-! ## Answers (R90, R91, R92, R128) -/

/-- Set the request back-off of a unit (R128). -/
def State.setBackoff (s : State) (u : UnitId) (n : Nat) : State :=
  { s with cpm := { s.cpm with backoff := s.cpm.backoff.set u n } }

/-- A LINK entry was declined or timed out: the back-off of the unit it counted under is set to 16 (R128). -/
def State.backOffEntry (s : State) (e : Entry) : State :=
  match e.change with
  | .link c =>
    match s.unitOfChange (.link c) with
    | some u => s.setBackoff u requestBackoff
    | none => s
  | .txProfile _ _ => s
  | .rxProfile _ _ => s

/-- The LOCAL PROPOSED entry with a tag (R90, R91). -/
def State.proposedEntry (s : State) (tag : Tag) : Option Entry :=
  s.plc.plan.find? fun e => e.tag == tag && e.origin == .local && e.state == .proposed

/-- Is it a LOCAL PROPOSED entry with a tag? -/
def Entry.isProposed (tag : Tag) (e : Entry) : Bool := e.tag == tag && e.origin == .local && e.state == .proposed

/-- PROPOSAL_TIMEOUT: a PROPOSED entry whose age has reached 4 is removed as unanswered and its proposer is told (R92). -/
def State.proposalTimeout (s : State) (tag : Tag) : State :=
  match s.proposedEntry tag with
  | some e => if 4 ≤ e.age then (s.removeEntries (Entry.isProposed tag)).backOffEntry e else s
  | none => s

end Sys2Proof.Machine
end

