-- ==== Sys2Proof/Machine/Link.lean ====
section
/-! DEFINITION. The carrier link state machine (chapter 2) with what every change of link state hands on (R38): anchor and hop
state (R5–R7), lock and loss of lock (R28–R31), starts (R109, R110), faults (R36), promotion and reversion requests at lock
events (R134, R136), the effects of HOP_DOWN (R76, R101, R138, R143). -/

namespace Sys2Proof.Machine

/-! ## Promotion and reversion requests (R134, R136) -/

/-- Is the unit of a carrier free for a request: no LINK entry touches it and it is not under back-off? -/
def State.requestable (s : State) (k : CarrierId) : Bool :=
  match s.unitOf k with
  | some u => !s.linkTouches u && s.cpm.backoff.get u == 0
  | none => false

/-- Is the carrier the single carrier of its unit? -/
def State.isSingle (s : State) (k : CarrierId) : Bool := s.members k == [k]

/-- States in which a carrier may be promoted for (R134). -/
def LinkState.failed (x : LinkState) : Bool :=
  match x with
  | .acquire => true
  | .holdoff => true
  | .waking => true
  | .down => true
  | .parked => false
  | .locked => false

/-- PROMOTE_REQUEST for carrier `t`, made by a LEAD end with promotion on (R134). -/
def State.requestPromote (s : State) (t : CarrierId) : State :=
  if s.settings.endRole == .lead && s.settings.promotion && s.cpm.acting.get t == some .traffic && s.isSingle t
      && (s.cpm.subs.all fun r => r.s != t) && (s.link t).failed && s.cpm.subs.length < 2 && s.requestable t then
    match ids.find? fun c => s.cpm.acting.get c == some .standby && s.isJoined c && s.isSingle c && s.requestable c with
    | some c => s.linkRequest (.promote c t)
    | none => s
  else s

/-- REVERT_REQUEST of a record, if its condition `wanted` holds (R136). -/
def State.requestRevert (s : State) (r : Substitution) (wanted : Bool) : State :=
  if s.settings.endRole == .lead && wanted && s.requestable r.s && s.requestable r.t then s.linkRequest (.revert r.s r.t) else s

/-- The immediate case: s is not LOCKED and t is (R136). -/
def State.revertNow (s : State) (r : Substitution) : Bool := !s.isLocked r.s && s.isLocked r.t

/-- The dwell case: the count has reached the revert dwell and s is LOCKED (R136). -/
def State.revertAfterDwell (s : State) (r : Substitution) : Bool := r.dwell == s.settings.revertDwell && s.isLocked r.s

/-- The immediate reversion of the records that name carrier `k` as `s` or `t` (R136). -/
def State.requestRevertsOf (s : State) (k : CarrierId) : State :=
  (s.cpm.subs.filter fun r => r.s == k || r.t == k).foldl (fun s r => s.requestRevert r (s.revertNow r)) s

/-! ## Hop state (R5, R6, R7) -/

/-- NUMBERING_ADOPTION: a FOLLOW end takes HSN and frame number of the latest good header of the carrier that locked (R5). -/
def State.adopt (s : State) (k : CarrierId) : State :=
  if s.settings.endRole = .follow then
    match s.htu.lastHeader.get k with
    | some (h, f) => { s with htu := { s.htu with hsn := h, frame := f } }
    | none => s
  else s

/-- The acting role that a provisioned role gives (R22). -/
def Role.acting (r : Role) : Option ActingRole :=
  match r with
  | .off => none
  | .traffic => some .traffic
  | .standby => some .standby
  | .mirror _ => some .mirror

/-- The pool's part of HOP_DOWN: substitutions and acting roles return to the provisioning, the peer's figures become unknown,
back-offs and backlog run are 0 (R138). -/
def State.poolHopDown (s : State) : State :=
  let acting := s.settings.roles.map Role.acting
  let changed := acting != s.cpm.acting
  let s := { s with cpm := { s.cpm with
    acting := acting, subs := [], peerHold := none, peerLimit := none, backoff := .of 0, backlogRun := 0 } }
  if changed then s.raiseAll flagCarrier else s

/-- The Plan Controller's part of HOP_DOWN: every entry and every draining mark goes (R101, R93). -/
def State.planHopDown (s : State) : State :=
  (s.removeEntries fun _ => true).setPlc fun p => { p with draining := .of false }

/-- The Hop Timing Unit's and the Adaptation Engine's part of HOP_DOWN: no role conflict, the recovery count starts, the peer view
is unknown (R7, R8, R37, R60). -/
def State.viewHopDown (s : State) : State :=
  { s with htu := { s.htu with conflict := false, recovery := 0 }, peer := .unknown }

/-- The Transmit Scheduler's part of HOP_DOWN: every committed credit is 0 (R143). -/
def State.creditHopDown (s : State) : State := { s with sched := { s.sched with credit := .of 0 } }

/-- HOP_DOWN, taken by every block of the table of R7, which gives no order among them: that the Plan Controller acts first (PLAN), then
the Hop Timing Unit and the peer view, then the pool (CARRIER), then the scheduler (CAPACITY, credits), and that HOP is raised last, is
the model's choice (log 48). -/
def State.goHopDown (s : State) : State :=
  (s.planHopDown.viewHopDown.poolHopDown.formCapacity.creditHopDown).raiseAll flagHop

/-- HOP_UP: numbering is adopted at a FOLLOW end, and HOP is raised (R5, R7). -/
def State.goHopUp (s : State) (k : CarrierId) : State := (s.adopt k).raiseAll flagHop

/-- ANCHOR_CHANGE: the anchor is re-evaluated, with the hop state (R6, R7). -/
def State.reanchor (s : State) : State :=
  let old := s.htu.anchor
  let new := s.lowestLocked
  let s := { s with htu := { s.htu with anchor := new } }
  match old, new with
  | none, some k => s.goHopUp k
  | some _, none => s.goHopDown
  | some _, some _ => s
  | none, none => s

/-! ## What a lock and a loss of lock hand on (R29, R31, R38) -/

/-- The unit's last LOCKED member has left LOCKED: adaptation context and profile entries (R76, R98, R100). The removal of the entries
forms C afresh, so a fall of C raises CAPACITY before the scheduler counts a discard; that order is the model's choice (log 51). -/
def State.unitUnlocked (s : State) (u : UnitId) : State :=
  let s := s.setAde u fun a => { a with state := .steady, ask := none, upDwell := 0 }
  let s := s.setPlc fun p => { p with dropSeen := p.dropSeen.set u false }
  s.removeEntries fun e => e.isRxOf u || e.isTxOf u

/-- The revert dwell count of a record is set to 0 at the event at which t leaves LOCKED (R136). -/
def State.clearDwell (s : State) (k : CarrierId) : State :=
  { s with cpm := { s.cpm with subs := s.cpm.subs.map fun r => if r.t = k then { r with dwell := 0 } else r } }

/-- The unit's adaptation context and profile entries when its last LOCKED member leaves LOCKED (R76, R98, R100). -/
def State.unlockUnit (s : State) (u : UnitId) : State := if s.unitLocked u then s else s.unitUnlocked u

/-- A unit that keeps a joined member goes on; without one it loses its staged blocks (R140, R154). -/
def State.unlockService (s : State) (u : UnitId) : State := if s.unitJoined u then s.formCapacity else s.loseUnit u

/-- Carrier `k` has left LOCKED (R31, R38): frame hold, adaptation and plan, scheduler, pair frame record, anchor and hop, pool
requests, in this order (log 10). The open record counts among the blocks that the unit loses with its last joined member (R154), so it
closes behind that test (R152). -/
def State.afterUnlock (s : State) (k : CarrierId) : State :=
  match s.unitOf k with
  | none => s.reanchor
  | some u =>
    let s := (((s.releaseHold u).unlockUnit u).unlockService u).closeIfTaken u
    ((s.reanchor.clearDwell k).requestRevertsOf k).requestPromote k

/-- The level on entry to LOCKED: the start level reduced to the cap, then one step at a time until the budget in use fits;
the cost of the carrier at its present level is `s.cost k` (R111). -/
def State.lockLevel (s : State) (k : CarrierId) : Nat :=
  min s.startLevel (s.figures.budget - (s.budgetInUse - s.cost k) - 1)

/-- The first member of a unit to lock sets the unit's profiles and context to their start (R29, R61, R80, R126). -/
def State.firstLock (s : State) (k : CarrierId) (u : UnitId) : State :=
  if s.otherLocked k then s
  else
    let s := s.setPlc fun p => { p with txProfile := p.txProfile.set u 0 }
    let s := s.setAde u fun a => { a with rxProfile := 0, upDwell := 0, atCap := none, lastProfile := none }
    { s with cpm := { s.cpm with idleRun := s.cpm.idleRun.set u 0 } }

/-- The level of a carrier that has locked is fitted to cap and budget (R111). -/
def State.fitLevel (s : State) (k : CarrierId) : State :=
  if s.lockLevel k = s.pbu.level.get k then s else s.setLevel k (s.lockLevel k)

/-- Carrier `k` has entered LOCKED (R29): profiles of a unit's first member, level, anchor and hop, reversion (R136), in this
order (log 10). -/
def State.afterLock (s : State) (k : CarrierId) : State :=
  match s.unitOf k with
  | none => s.reanchor
  | some u => (((s.firstLock k u).fitLevel k).reanchor).requestRevertsOf k

/-- On entry to ACQUIRE the Fade Tracker clears its ring, runs and accumulators (R27, R40, R41, R44, R45). -/
def Ftr.clear (f : Ftr) : Ftr := { f with ring := [], aligned := false, errorRun := 0, acc := ⟨0, 0, 0, 0, 0⟩ }

/-- Transmitter unpowered or muted: the outbound queue is emptied on entry (R15). -/
def LinkState.silent (x : LinkState) : Bool :=
  match x with
  | .down => true
  | .waking => true
  | .parked => true
  | .holdoff => true
  | .acquire => false
  | .locked => false

/-- On entry to a silent state the service queue is emptied (R15). -/
def State.silence (s : State) (k : CarrierId) (now : LinkState) : State := if now.silent then s.clearQueue k else s

/-- On entry to ACQUIRE the Fade Tracker starts afresh (R27). -/
def State.freshTracker (s : State) (k : CarrierId) (now : LinkState) : State :=
  if now = .acquire then s.setFtr k Ftr.clear else s

/-- What a change of link state hands on (R38). -/
def State.handOn (s : State) (k : CarrierId) (was now : LinkState) : State :=
  if was = .locked then s.afterUnlock k else if now = .locked then s.afterLock k else s

/-- Every change of link state goes through here: `f` changes the controller's state, and the change is handed on (R38). -/
def State.changeLink (s : State) (k : CarrierId) (f : Clc → Clc) : State :=
  let now := (f (s.clc.get k)).link
  (((((s.setClc k f).raiseAll flagCarrier).silence k now).freshTracker k now).handOn k (s.link k) now).settleCheck

/-! ## Entries to the states -/

/-- The controller on entry to ACQUIRE (R27); `mark` sets the wake mark (R33). -/
def Clc.toAcquire (mark : Bool) (c : Clc) : Clc :=
  { c with link := .acquire, acquireCount := 0, alignedRun := 0, unalignedRun := 0, headerRun := 0, headerAligned := false,
           joined := false, wakeMark := mark || c.wakeMark }

/-- The controller on entry to LOCKED (R29). -/
def Clc.toLocked (c : Clc) : Clc :=
  { c with link := .locked, unalignedRun := 0, headerRun := 0, wakeMark := false, failedWakes := 0, joined := false }

/-- The controller at a loss of lock (R31). -/
def Clc.loseLock (c : Clc) : Clc := { c.toAcquire false with lockLosses := satSucc32 c.lockLosses }

/-- The controller on entry to HOLDOFF (R32). -/
def Clc.toHoldoff (c : Clc) : Clc := { c with link := .holdoff, holdoffCount := 0 }

/-- The controller at the apply of a PARK (R35). -/
def Clc.park (c : Clc) : Clc :=
  { c with link := .parked, joined := false, wakeMark := false, failedWakes := 0, acquireCount := 0, holdoffCount := 0 }

/-- The controller on a fault (R36). -/
def Clc.fault (c : Clc) : Clc :=
  { c with link := .down, faultLatch := true, joined := false, wakeMark := false, failedWakes := 0, acquireCount := 0,
           holdoffCount := 0, wakingCount := 0, retryCount := 0 }

/-- ACQUISITION_START decided by the Power Budget Unit: the level of a granted start, none for a refusal (R110). -/
def State.startGrant (s : State) : Option Nat :=
  if s.startLevel + 1 ≤ s.room then some s.startLevel
  else if startCost ≤ s.room then some (s.room - 1)
  else none

/-- An acquisition start of carrier `k`: none if the Power Budget Unit refuses; else level, ACQUIRE, SET_LEVEL and UNMUTE
(R27, R109, R110). -/
def State.tryStart (s : State) (k : CarrierId) (mark : Bool) : Option State :=
  match s.startGrant with
  | some n =>
    let s := { s with pbu := { s.pbu with level := s.pbu.level.set k n } }
    let s := (s.command k (.setLevel n)).command k .unmute
    some (s.changeLink k (Clc.toAcquire mark))
  | none => none

/-- A start that leaves the carrier where it is when refused (R34, R37). -/
def State.startOrStay (s : State) (k : CarrierId) (mark : Bool) : State := (s.tryStart k mark).getD s

/-- LOCK_ENTRY where both conditions of R28 hold. -/
def State.lockIfReady (s : State) (k : CarrierId) : State :=
  let c := s.clc.get k
  if c.link = .acquire && 8 ≤ c.alignedRun && c.headerAligned then s.changeLink k Clc.toLocked else s

/-- LOCK_LOSS where one of the runs of R31 has reached 4. -/
def State.unlockIfLost (s : State) (k : CarrierId) : State :=
  let c := s.clc.get k
  if c.link = .locked && (4 ≤ c.unalignedRun || 4 ≤ c.headerRun) then s.changeLink k Clc.loseLock else s

/-- A fault: POWER_DOWN, DOWN, fault latch (R36). -/
def State.faultCarrier (s : State) (k : CarrierId) : State := (s.command k .powerDown).changeLink k Clc.fault

/-- The apply of a PARK at its carrier (R35). -/
def State.parkCarrier (s : State) (k : CarrierId) : State :=
  match s.link k with
  | .locked => (s.command k .mute).changeLink k Clc.park
  | .acquire => (s.command k .mute).changeLink k Clc.park
  | .holdoff => s.changeLink k Clc.park
  | .down => s
  | .waking => s
  | .parked => s

/-! ## Expiries of the link state machine -/

/-- WAKING_TIMEOUT (R26). -/
def State.wakingTimeout (s : State) (k : CarrierId) : State :=
  if s.link k = .waking && wakingLimit ≤ (s.clc.get k).wakingCount then s.faultCarrier k else s

/-- Set the wake penalty of a carrier at its third failed wake (R121). -/
def State.setPenalty (s : State) (k : CarrierId) : State :=
  { s with cpm := { s.cpm with penalty := s.cpm.penalty.set k wakePenalty, penaltyFresh := s.cpm.penaltyFresh.set k true } }

/-- The controller at the third failed wake (R33). -/
def Clc.giveUp (c : Clc) : Clc :=
  { c with link := .parked, wakeMark := false, failedWakes := 0, wakeFailures := satSucc32 c.wakeFailures }

/-- ACQUIRE_TIMEOUT (R32, R33). -/
def State.acquireTimeout (s : State) (k : CarrierId) : State :=
  let c := s.clc.get k
  if c.link = .acquire && acquireLimit ≤ c.acquireCount then
    let s := s.command k .mute
    if c.wakeMark then
      if 3 ≤ c.failedWakes + 1 then (s.setPenalty k).changeLink k Clc.giveUp
      else s.changeLink k fun c => { c.toHoldoff with failedWakes := c.failedWakes + 1 }
    else s.changeLink k Clc.toHoldoff
  else s

/-- HOLDOFF_END: an acquisition start; a refusal restarts the count (R32). -/
def State.holdoffEnd (s : State) (k : CarrierId) : State :=
  if s.link k = .holdoff && holdoffLimit ≤ (s.clc.get k).holdoffCount then
    match s.tryStart k false with
    | some s' => s'
    | none => s.setClc k fun c => { c with holdoffCount := 0 }
  else s

/-- FAULT_RETRY_EXPIRY: POWER_UP and WAKING, the latch still set (R36). -/
def State.faultRetry (s : State) (k : CarrierId) : State :=
  let c := s.clc.get k
  if c.link = .down && c.faultLatch && retryLimit ≤ c.retryCount then
    (s.command k .powerUp).changeLink k fun c => { c with link := .waking, wakingCount := 0 }
  else s

/-- HOP_RECOVERY_ATTEMPT (R37). -/
def State.recoveryAttempt (s : State) : State :=
  if !s.hopUp && recoveryLimit ≤ s.htu.recovery && (ids.all fun k => s.link k != .acquire) && s.awakeCount < s.localLimit then
    match ids.find? fun k => s.link k == .parked && s.cpm.penalty.get k == 0 with
    | some k =>
      match s.tryStart k false with
      | some s' => { s' with htu := { s'.htu with recovery := 0 } }
      | none => s
    | none => s
  else s

/-! ## Modem events without data -/

/-- The controller on entry to PARKED from WAKING (R26, R33). -/
def Clc.parkReady (c : Clc) : Clc := { c with link := .parked, faultLatch := false, wakeMark := false, allowance := false }

/-- MODEM_READY (R26): SET_COMBINER, then an acquisition start or PARKED. -/
def State.modemReady (s : State) (k : CarrierId) : State :=
  let c := s.clc.get k
  if c.link = .waking then
    let s := s.command k (.setCombiner (s.ftr.get k).mode)
    if c.allowance && !c.faultLatch then
      match (s.setClc k fun c => { c with allowance := false }).tryStart k false with
      | some s' => s'
      | none => s.changeLink k Clc.parkReady
    else s.changeLink k Clc.parkReady
  else s

/-- ENERGY (R34). -/
def State.energy (s : State) (k : CarrierId) : State :=
  if s.link k = .parked then
    if s.plc.plan.any (Entry.isWake (some k)) then s.startOrStay k true
    else if !s.hopUp && s.awakeCount < s.localLimit then s.startOrStay k false
    else s
  else s

/-- MODEM_FAULT (R36): in DOWN with the latch set it restarts the retry count, in DOWN otherwise it is discarded (R19). -/
def State.modemFault (s : State) (k : CarrierId) : State :=
  let c := s.clc.get k
  if c.link = .down then (if c.faultLatch then s.setClc k fun c => { c with retryCount := 0 } else s) else s.faultCarrier k

end Sys2Proof.Machine
end

