-- ==== Sys2Proof/Machine/Apply.lean ====
section
/-! DEFINITION. The apply of plan entries (R95–R97): TX_PROFILE, PARK (R35), WAKE (R34), PROMOTE (R135), REVERT (R137). -/

namespace Sys2Proof.Machine

/-- Set the acting role of a carrier; each change raises CARRIER for every tenant (R22). -/
def State.setActing (s : State) (k : CarrierId) (r : ActingRole) : State :=
  ({ s with cpm := { s.cpm with acting := s.cpm.acting.set k (some r) } }).raiseAll flagCarrier

/-- The unit of a carrier leaves service under R154; a carrier of no unit has none. -/
def State.loseUnitOf (s : State) (k : CarrierId) : State :=
  match s.unitOf k with
  | some u => s.loseUnit u
  | none => s

/-- Is the unit of a carrier in service? -/
def State.serves (s : State) (k : CarrierId) : Bool :=
  match s.unitOf k with
  | some u => s.inService u
  | none => false

/-- A substitution record is added to the list (R121, R135). -/
def State.addSubstitution (s : State) (c t : CarrierId) : State :=
  { s with cpm := { s.cpm with subs := s.cpm.subs ++ [Substitution.mk c t 0] } }

/-- PROMOTE_APPLY: the acting roles alone are tested; t's unit, if it is in service, leaves it (R135, R154). -/
def State.applyPromote (s : State) (c t : CarrierId) : State :=
  if s.cpm.acting.get c = some .standby ∧ s.cpm.acting.get t = some .traffic then
    let served := s.serves t
    let s := ((s.setActing c .traffic).setActing t .displaced).addSubstitution c t
    if served then s.loseUnitOf t else s.formCapacity
  else s

/-- Is it the substitution record (c, t)? -/
def Substitution.is (c t : CarrierId) (r : Substitution) : Bool := r.s == c && r.t == t

/-- The test of a REVERT at its apply (R137). -/
def State.revertHolds (s : State) (c t : CarrierId) : Bool :=
  s.cpm.subs.any (Substitution.is c t) && s.cpm.acting.get c == some .traffic && s.cpm.acting.get t == some .displaced

/-- REVERT_APPLY: roles and substitution list (R137). -/
def State.applyRevert (s : State) (c t : CarrierId) : State :=
  if s.revertHolds c t then
    let s := (s.setActing c .standby).setActing t .traffic
    { s with cpm := { s.cpm with subs := s.cpm.subs.filter fun r => !Substitution.is c t r } }
  else s

/-- Is the unit of a carrier draining? -/
def State.drains (s : State) (k : CarrierId) : Bool :=
  match s.unitOf k with
  | some u => s.isDraining u
  | none => false

/-- At the apply of a PARK or REVERT of `k`, its unit leaves service with what it still holds, if it is draining (R154). -/
def State.flushDraining (s : State) (k : CarrierId) : State := if s.drains k then s.loseUnitOf k else s

/-- The draining mark of the unit of `k`, set if `was`, is cleared when its entry has been applied (R93, R97; log 24). -/
def State.endDraining (s : State) (k : CarrierId) (was : Bool) : State :=
  match s.unitOf k with
  | some u => if was then (s.clearDraining u).formCapacity else s
  | none => s

/-- The effect of an applied entry (R97). An RX_PROFILE entry is never applied (R94). A PARK flushes a draining unit before its carrier
leaves LOCKED, so that what stands in an open pair frame record alone counts as held (R152, R154; log 24). -/
def State.applyChange (s : State) (c : Change) : State :=
  match c with
  | .txProfile u q => (s.setPlc fun p => { p with txProfile := p.txProfile.set u q }).formCapacity
  | .rxProfile _ _ => s
  | .link (.park k) => ((s.flushDraining k).parkCarrier k).endDraining k (s.drains k)
  | .link (.wake k) => if s.link k = .parked then s.startOrStay k true else s
  | .link (.promote k t) => s.applyPromote k t
  | .link (.revert k t) => (((s.applyRevert k t).flushDraining k).endDraining k (s.drains k)).formCapacity

/-- The apply of an entry: it leaves the plan and has its effect (R97; log 24). -/
def State.applyEntry (s : State) (e : Entry) : State := (s.eraseEntries (· == e)).applyChange e.change

/-- Does an entry apply at superframe `h` (R95)? -/
def Entry.dueAt (h : Hsn) (e : Entry) : Bool := !e.isRx && e.state == .agreed && e.target == some h

/-- Apply, one after another in plan order, up to `n` entries with target `h`. -/
def State.applyUpTo (h : Hsn) (n : Nat) (s : State) : State :=
  match n with
  | 0 => s
  | n + 1 =>
    match (planOrder s.htu.hsn s.plc.plan).find? (Entry.dueAt h) with
    | some e => State.applyUpTo h n (s.applyEntry e)
    | none => s

/-- PLAN_APPLY, FRAME_APPLY_ENTRIES: every entry but RX_PROFILE entries with target `h` is applied in list order (R95, R96). -/
def State.applyDue (s : State) (h : Hsn) : State := State.applyUpTo h s.plc.plan.length s

end Sys2Proof.Machine
end

