-- ==== Sys2Proof/Machine/Fade.lean ====
section
/-! DEFINITION. The Fade Tracker (chapter 3): samples, running values, superframe means, branch selection, emergency
conditions and what an emergency does (R72). -/

namespace Sys2Proof.Machine

/-! ## Running values (R42–R44), read from the ring -/

/-- Sum of the output qualities of entries. -/
def outputSum (es : List RingEntry) : Nat := (es.map RingEntry.output).sum

/-- Short mean: floor mean over the newest 8 entries (R42). -/
def Ftr.shortMean (f : Ftr) : Option Nat :=
  if 8 ≤ f.ring.length then some (outputSum (f.ring.drop (f.ring.length - 8)) / 8) else none

/-- Short mean 8 samples earlier: over the 9th to 16th newest entries (R43). -/
def Ftr.earlierMean (f : Ftr) : Option Nat :=
  if 16 ≤ f.ring.length then some (outputSum ((f.ring.drop (f.ring.length - 16)).take 8) / 8) else none

/-- The fall (R43). -/
def Ftr.fall (f : Ftr) : Option Int :=
  match f.earlierMean, f.shortMean with
  | some a, some b => some ((a : Int) - b)
  | _, _ => none

/-! ## A sample (R39–R41, R44, R45, R50) -/

/-- Is every field of a SAMPLE within its range (R39)? -/
def sampleValid (x : SampleData) : Bool :=
  x.upper ≤ 200 && x.lower ≤ 200 && x.output ≤ 200 && x.errors ≤ 255 && x.selectivity ≤ 31

/-- Does a sample report the receiver aligned in a mode (R40)? -/
def sampleAligned (x : SampleData) (m : Combiner) : Bool :=
  match m with
  | .upper => x.upperAligned
  | .lower => x.lowerAligned
  | .joint => x.upperAligned || x.lowerAligned

/-- The ring entry of a sample (R41). -/
def sampleEntry (x : SampleData) (m : Combiner) : RingEntry :=
  ⟨x.output, x.upper, x.lower, x.upperAligned, x.lowerAligned, x.errors, x.selectivity, m⟩

/-- Append an entry; the ring keeps the newest 64 (R41). -/
def appendRing (ring : List RingEntry) (e : RingEntry) : List RingEntry :=
  (ring ++ [e]).drop (ring.length + 1 - ringSize)

/-- Add a sample to the superframe accumulators, unless 1023 are there (R45). -/
def Accumulators.add (a : Accumulators) (x : SampleData) : Accumulators :=
  if a.number < 1023 then
    ⟨a.number + 1, a.output + x.output, a.upper + x.upper, a.lower + x.lower, a.selectivity + x.selectivity⟩
  else a

/-- Error run after a sample (R44). -/
def nextErrorRun (run errors : Nat) : Nat := if 4 ≤ errors then min (run + 1) 2 else 0

/-- The tracker after steps 1 to 3 of R39. -/
def Ftr.record (f : Ftr) (x : SampleData) : Ftr :=
  { f with
    aligned := sampleAligned x f.mode
    ring := appendRing f.ring (sampleEntry x f.mode)
    acc := f.acc.add x
    errorRun := nextErrorRun f.errorRun x.errors }

/-- BRANCH_SWITCH_IMMEDIATE: the new mode that a sample calls for, if any (R50). -/
def switchTo (m : Combiner) (x : SampleData) : Option Combiner :=
  match m with
  | .upper => if x.upperAligned then none else if x.lowerAligned then some .lower else some .joint
  | .lower => if x.lowerAligned then none else if x.upperAligned then some .upper else some .joint
  | .joint => none

/-- A change of combiner mode: the dwell count is set to 0, and SET_COMBINER is sent if the modem is powered (R47, R20). -/
def State.setCombiner (s : State) (k : CarrierId) (m : Combiner) : State :=
  let s := s.setFtr k fun f => { f with mode := m, dwell := 0 }
  if s.link k = .down then s else s.command k (.setCombiner m)

/-! ## Emergency (R51–R54, R72) -/

/-- Condition (a), deep fade (R52). -/
def Ftr.deepFade (f : Ftr) (required : Nat) : Bool := f.shortMean.any fun m => m + 8 < required

/-- Condition (b), block errors (R52). -/
def Ftr.blockErrors (f : Ftr) : Bool := f.errorRun == 2

/-- Condition (c), fast fall (R52). -/
def Ftr.fastFall (f : Ftr) (required : Nat) : Bool :=
  (f.fall.any fun d => 24 ≤ d) && f.shortMean.any fun m => m < required + 8

/-- Does a condition hold at every LOCKED member of a unit (R53)? -/
def State.atEveryLocked (s : State) (u : UnitId) (p : Ftr → Bool) : Bool :=
  (s.members u).all fun m => !s.isLocked m || p (s.ftr.get m)

/-- An emergency indication: the conditions of R52 that hold (R54). -/
structure Indication where
  /-- (a) deep fade -/
  deepFade : Bool
  /-- (b) block errors -/
  blockErrors : Bool
  /-- (c) fast fall -/
  fastFall : Bool
  deriving DecidableEq, Repr

/-- Does any condition hold? -/
def Indication.holds (i : Indication) : Bool := i.deepFade || i.blockErrors || i.fastFall

/-- The conditions that hold for unit `u` at a sample of a LOCKED member; none is tested at receive profile 0 (R51–R54). -/
def State.indication (s : State) (u : UnitId) : Indication :=
  let q := (s.ade.get u).rxProfile
  let r := s.settings.required q
  if q = 0 then ⟨false, false, false⟩
  else ⟨s.atEveryLocked u (·.deepFade r), s.atEveryLocked u (·.blockErrors), s.atEveryLocked u (·.fastFall r)⟩

/-- Does the emergency of unit `u` hold at a sample of a LOCKED member (R51–R53)? -/
def State.emergencyHolds (s : State) (u : UnitId) : Bool := (s.indication u).holds

/-- ENTER_DROPPING: the ask is abandoned, the unit's RX_PROFILE entry is removed, the up-dwell count is set to 0 (R72). -/
def State.enterDropping (s : State) (u : UnitId) : State :=
  (s.removeEntries (Entry.isRxOf u)).setAde u fun a => { a with ask := none, upDwell := 0, state := .dropping }

/-- An emergency indication at the unit's context (R72): an indication that names a condition enters DROPPING, whichever it names. -/
def State.emergency (s : State) (u : UnitId) (i : Indication) : State :=
  let a := s.ade.get u
  if i.holds = false ∨ a.state = .dropping ∨ a.rxProfile = 0 then s else s.enterDropping u

/-- Step 5 of R39, on a carrier that is LOCKED: the indication with its conditions is handed to the engine (R54). -/
def State.testEmergency (s : State) (k : CarrierId) : State :=
  match s.unitOf k with
  | some u => if s.isLocked k && s.emergencyHolds u then s.emergency u (s.indication u) else s
  | none => s

/-! ## The unit's short mean (R46) -/

/-- The higher of two values, each possibly undefined. -/
def higher (a b : Option Nat) : Option Nat :=
  match a, b with
  | some m, some n => some (max m n)
  | some m, none => some m
  | none, b => b

/-- Short mean of a unit: of its one carrier; of a pair, the higher of its LOCKED members' (R46). -/
def State.unitShortMean (s : State) (u : UnitId) : Option Nat :=
  if s.isPair u then
    (s.members u).foldl (fun best k => higher best (if s.isLocked k then (s.ftr.get k).shortMean else none)) none
  else (s.ftr.get u).shortMean

/-- The unit's short mean at a sample of carrier `k` is handed to the Adaptation Engine (R46). -/
def State.handShortMean (s : State) (k : CarrierId) : State :=
  match s.unitOf k with
  | some u => s.setAde u fun a => { a with shortMean := s.unitShortMean u }
  | none => s

/-! ## The whole sample -/

/-- The alignment runs of the Carrier Link Controller after a sample (R28, R31). -/
def Clc.sampleRuns (c : Clc) (aligned : Bool) : Clc :=
  if aligned then { c with alignedRun := min (c.alignedRun + 1) 8, unalignedRun := 0 }
  else { c with alignedRun := 0, unalignedRun := min (c.unalignedRun + 1) 4 }

/-- Steps 1 to 5 of R39 at the Fade Tracker. -/
def State.trackSample (s : State) (k : CarrierId) (x : SampleData) : State :=
  let m := (s.ftr.get k).mode
  let s := (s.setFtr k (·.record x)).handShortMean k
  let s := match switchTo m x with
    | some n => s.setCombiner k n
    | none => s
  s.testEmergency k

/-- SAMPLE: taken in ACQUIRE or LOCKED (R19); one out of range is discarded whole (R39). The Fade Tracker takes it whole, then
the Carrier Link Controller counts its judgement (log 32). -/
def State.takeSample (s : State) (k : CarrierId) (x : SampleData) : State :=
  if (s.link k = .acquire ∨ s.link k = .locked) ∧ sampleValid x = true then
    let aligned := sampleAligned x (s.ftr.get k).mode
    let s := (s.trackSample k x).setClc k (·.sampleRuns aligned)
    if s.link k = .locked then s.unlockIfLost k else s.lockIfReady k
  else s

/-! ## The boundary (R45–R49) -/

/-- Mean of a sum over the samples of a superframe (R45). -/
def Accumulators.mean (a : Accumulators) (sum : Nat) : Nat := sum / a.number

/-- The choice of R48 from the superframe means. -/
def chooseMode (m : Combiner) (upper lower selectivity : Nat) : Combiner :=
  if 12 ≤ selectivity then
    if lower < upper then .upper
    else if upper < lower then .lower
    else if m = .joint then .upper else m
  else if upper ≤ lower + 12 ∧ lower ≤ upper + 12 then .joint
  else if lower < upper then .upper
  else .lower

/-- SUPERFRAME_CLOSE without the branch selection: last mean, dwell count, accumulators (R45, R47). -/
def Ftr.close (f : Ftr) : Ftr :=
  { f with
    lastMean := if f.acc.number = 0 then none else some (f.acc.mean f.acc.output)
    lastNumber := f.acc.number
    dwell := min (f.dwell + 1) 4
    acc := ⟨0, 0, 0, 0, 0⟩ }

/-- The choice that a closing superframe makes, none with fewer than 16 samples (R48). -/
def Ftr.choice (f : Ftr) : Option Combiner :=
  if 16 ≤ f.acc.number then
    some (chooseMode f.mode (f.acc.mean f.acc.upper) (f.acc.mean f.acc.lower) (f.acc.mean f.acc.selectivity))
  else none

/-- SUPERFRAME_CLOSE and BRANCH_SELECTION of one carrier (R45, R48, R49). -/
def State.closeFade (s : State) (k : CarrierId) : State :=
  let f := s.ftr.get k
  let s := s.setFtr k Ftr.close
  match f.choice with
  | some m => if m ≠ f.mode ∧ (s.ftr.get k).dwell = 4 then s.setCombiner k m else s
  | none => s

/-! ## Unit values (R46, R61) -/

/-- The mean that a member gives to its unit's superframe mean; LOCKED is tested when the Adaptation Engine takes the boundary, which is
the model's choice (R46; log 44). -/
def State.memberMean (s : State) (k : CarrierId) : Option Nat :=
  if s.isLocked k && 16 ≤ (s.ftr.get k).lastNumber then (s.ftr.get k).lastMean else none

/-- The unit's superframe mean with its governing member: the higher of its members', the primary's where equal (R46, R61). -/
def State.formMean (s : State) (u : UnitId) : Option (CarrierId × Nat) :=
  (s.members u).foldl (fun best k =>
    match best, s.memberMean k with
    | none, some m => some (k, m)
    | some (j, b), some m => if b < m then some (k, m) else some (j, b)
    | best, none => best) none

/-- The governing member with the unit's superframe mean, as formed at the last boundary (R46, R61). -/
def State.governing (s : State) (u : UnitId) : Option (CarrierId × Nat) := (s.ade.get u).mean

end Sys2Proof.Machine
end

