-- ==== Sys2Proof/Machine/Adapt.lean ====
section
/-! DEFINITION. The Adaptation Engine (chapter 4): boundary decision, power asks, header rule, peer view, ladder digest. -/

namespace Sys2Proof.Machine

/-! ## The ladder digest (R201) and its comparison (R60) -/

/-- Code of a constellation (R194). -/
def Constellation.code (c : Constellation) : Nat :=
  match c with
  | .s4 => 0
  | .s16 => 1
  | .s32 => 2
  | .s64 => 3
  | .s128 => 4
  | .s256 => 5

/-- Code of a code rate (R194). -/
def CodeRate.code (c : CodeRate) : Nat :=
  match c with
  | .r12 => 0
  | .r23 => 1
  | .r34 => 2
  | .r56 => 3
  | .r78 => 4

/-- The four bytes of a profile (R194). -/
def Profile.bytes (p : Profile) : List Byte :=
  [BitVec.ofNat 8 p.constellation.code, BitVec.ofNat 8 p.rate.code, BitVec.ofNat 8 p.blocks, BitVec.ofNat 8 p.required]

/-- The bytes of the ladder in force, after its profile count (R194). -/
def Settings.ladderBytes (p : Settings) : List Byte := p.ladder.flatMap Profile.bytes

/-- The ladder digest: CRC-16 over the profile count and each profile's four bytes (R201). -/
def Settings.digest (p : Settings) : BitVec 16 :=
  BitVec.ofNat 16 (crc16 (BitVec.ofNat 8 p.ladder.length :: p.ladderBytes))

/-- The ladder-digest comparison: none unknown, else whether it stands at match (R60). -/
def State.digestMatch (s : State) : Option Bool := s.peer.digest.map fun d => d == s.settings.digest

/-! ## Marks and asks (R67–R70) -/

/-- Set the peer-at-cap mark, recording the view of the asked carrier (R70). -/
def State.setAtCap (s : State) (u : UnitId) : State :=
  let view := match (s.ade.get u).asked with
    | some c => (s.peer.level.get c, s.peer.cap.get c)
    | none => (none, none)
  s.setAde u fun a => { a with atCap := some view }

/-- POWER_ASK_OFFER (R67); the ask's tag is the counter's value, which then moves on (R59; log 12). -/
def State.offerAsk (s : State) (u : UnitId) (c : CarrierId) (delta : Int) : State :=
  let tag := s.askTag
  let s := ({ s with askTag := s.askTag + 1 }).offer (s.serviceCarrier u) (.powerAsk tag c delta)
  s.setAde u fun a => { a with ask := some ⟨tag, c, delta, 0⟩, asked := some c, state := .askingPower }

/-- Has the unit's ask waited two boundaries (R69)? -/
def State.askExpired (s : State) (u : UnitId) : Bool := (s.ade.get u).ask.any fun k => 2 ≤ k.wait

/-- End of an ask as unanswered (R69). -/
def State.endAsk (s : State) (u : UnitId) : State :=
  (s.setAtCap u).setAde u fun a => { a with ask := none, state := .steady }

/-! ## The boundary decision (R62–R66) -/

/-- Steps 1 and 2 of R62, and step 1 alone while no member is LOCKED. -/
def Ade.tick (locked : Bool) (a : Ade) : Ade :=
  { a with
    dropHold := a.dropHold - 1
    ask := if locked then a.ask.map fun k => { k with wait := min (k.wait + 1) 2 } else a.ask }

/-- The surplus of R63 at mean `m`: the next profile is cleared by the up margin. -/
def Settings.clearsNext (p : Settings) (q : Nat) (m : Option Nat) : Bool :=
  m.any fun m => q < p.top && p.required (q + 1) + p.upMargin ≤ m

/-- The up-dwell count after a boundary (R63). -/
def Settings.nextUpDwell (p : Settings) (a : Ade) (m : Option Nat) : Nat :=
  if p.clearsNext a.rxProfile m then min (a.upDwell + 1) p.upDwell else 0

/-- The highest profile with the target margin at mean `m`, or profile 0 (R64). -/
def Settings.downshift (p : Settings) (m : Nat) : Nat :=
  (List.range p.ladder.length).foldl (fun best q => if p.required q + p.targetMargin ≤ m then q else best) 0

/-- Steps asked for in a deficit (R64). -/
def Settings.deficitSteps (p : Settings) (q m : Nat) : Nat := min (ceilDiv (p.required q + p.targetMargin - m) 4) 8

/-- Is there room at the peer: level and cap known, level below cap, mark clear (R64)? -/
def State.peerHasRoom (s : State) (u : UnitId) (c : CarrierId) : Bool :=
  match s.peer.level.get c, s.peer.cap.get c with
  | some l, some k => l < k && (s.ade.get u).atCap.isNone
  | _, _ => false

/-- A deficit: power first, otherwise a downshift (R64). -/
def State.deficit (s : State) (u : UnitId) (c : CarrierId) (m : Nat) : State :=
  let q := (s.ade.get u).rxProfile
  if s.peerHasRoom u c then s.offerAsk u c (s.settings.deficitSteps q m)
  else if 0 < q then s.proposeProfile u (s.settings.downshift m)
  else s

/-- Does a LINK entry count under unit `u` (R65)? -/
def State.linkCounts (s : State) (u : UnitId) : Bool :=
  s.plc.plan.any fun e => e.link?.isSome && s.unitOfChange e.change == some u

/-- May an upshift be proposed (R65)? -/
def State.mayUpshift (s : State) (u : UnitId) : Bool :=
  let a := s.ade.get u
  s.settings.upDwell ≤ a.upDwell && a.dropHold == 0 && s.digestMatch == some true && !s.linkCounts u

/-- A power-down ask where the margin allows it (R65, R66). -/
def State.powerDown (s : State) (u : UnitId) (c : CarrierId) (m : Nat) : State :=
  let q := (s.ade.get u).rxProfile
  if s.settings.required q + s.settings.targetMargin + 8 ≤ m && (s.peer.level.get c).any (0 < ·) then s.offerAsk u c (-1)
  else s

/-- No deficit: the surplus test by the peer's site power mode (R65, R66). -/
def State.surplus (s : State) (u : UnitId) (c : CarrierId) (m : Nat) : State :=
  let q := (s.ade.get u).rxProfile
  match s.peer.mode with
  | some .full => if q < s.settings.top then (if s.mayUpshift u then s.proposeProfile u (q + 1) else s) else s.powerDown u c m
  | some .economy => s.powerDown u c m
  | some .survival => s.powerDown u c m
  | none => s

/-- Step 4 of R62: the decision of a unit in STEADY whose mean is defined. -/
def State.decideUnit (s : State) (u : UnitId) : State :=
  match s.governing u with
  | some (c, m) =>
    let a := s.ade.get u
    if a.state = .steady then
      if m < s.settings.required a.rxProfile + s.settings.holdMargin then s.deficit u c m else s.surplus u c m
    else s
  | none => s

/-- The unit's superframe mean is formed, once at each boundary (R46; log 44); then steps 1 to 3 of R62, and step 1 alone while no
member is LOCKED. -/
def State.tickUnit (s : State) (u : UnitId) : State :=
  let locked := s.unitLocked u
  let m := s.formMean u
  let s := s.setAde u fun a => { a.tick locked with mean := m }
  if locked then s.setAde u fun a => { a with upDwell := s.settings.nextUpDwell a ((s.governing u).map Prod.snd) } else s

/-- POWER_ASK_EXPIRY with that boundary's decision, if the ask still stands (R69). -/
def State.askExpiry (s : State) (u : UnitId) : State := if s.askExpired u then (s.endAsk u).decideUnit u else s

/-! ## POWER_SET (R60, R68) -/

/-- Is the unit's outstanding ask the one answered? -/
def Ade.asksFor (tag : Option Tag) (c : CarrierId) (a : Ade) : Bool := a.ask.any fun k => some k.tag == tag && k.carrier == c

/-- POWER_SET: the view takes the level; a matching ask is answered, a refusal sets the peer-at-cap mark (R60, R68). -/
def State.takePowerSet (s : State) (tag : Option Tag) (c : CarrierId) (level : Nat) (result : PowerResult) : State :=
  let s := { s with peer := { s.peer with level := s.peer.level.set c (some level) } }
  match ids.find? fun u => (s.ade.get u).asksFor tag c with
  | some u =>
    let s := s.setAde u fun a => { a with ask := none, state := .steady }
    if result = .granted then s else s.setAtCap u
  | none => s

/-! ## The header rule (R73, R75) and the past target (R94) -/

/-- Set the receive profile; a change sets the up-dwell count to 0 (R63, R75). -/
def Ade.setProfile (q : Nat) (a : Ade) : Ade := if q = a.rxProfile then a else { a with rxProfile := q, upDwell := 0 }

/-- DROP_COMPLETE (R73). -/
def State.completeDrop (s : State) (u : UnitId) : State :=
  s.setAde u fun a => { a with dropHold := s.settings.dropHold, upDwell := 0, state := .steady }

/-- Is it the RX_PROFILE entry of unit `u` with value `q`? -/
def Entry.isRxTo (u : UnitId) (q : Nat) (e : Entry) : Bool :=
  match e.change with
  | .rxProfile v p => v == u && p == q
  | .txProfile _ _ => false
  | .link _ => false

/-- HEADER_RULE for a good header with profile index `q` on a LOCKED carrier of unit `u` (R75). -/
def State.headerRule (s : State) (u : UnitId) (q : Nat) : State :=
  let differs := (s.ade.get u).rxProfile != q
  let s := s.setAde u fun a => { a.setProfile q with lastProfile := some q }
  let s := if differs then s.removeEntries (Entry.isRxTo u q) else s
  if (s.ade.get u).state = .dropping ∧ q = 0 then s.completeDrop u else s

/-- Is it an AGREED RX_PROFILE entry of unit `u` whose target is the superframe before `now` (R94)? -/
def Entry.isPastRx (u : UnitId) (now : Hsn) (e : Entry) : Bool :=
  e.isRxOf u && e.state == .agreed && (e.target.any fun h => h + 1 == now)

/-- RX_ENTRY_PAST_TARGET: the entry goes, and the receive profile is taken from the latest good header (R94, R75). -/
def State.rxPastTarget (s : State) (u : UnitId) : State :=
  if s.plc.plan.any (Entry.isPastRx u s.htu.hsn) then
    (s.removeEntries (Entry.isPastRx u s.htu.hsn)).setAde u fun a =>
      match a.lastProfile with
      | some q => a.setProfile q
      | none => a
  else s

/-! ## HELLO at the engine (R60, R70) -/

/-- Does a HELLO show new room on the asked carrier (R70)? -/
def Ade.newRoom (h : Hello) (a : Ade) : Bool :=
  match a.atCap, a.asked with
  | some (level, cap), some c =>
    h.level.get c < h.cap.get c && (level.all (h.level.get c < ·) || cap.all (· < h.cap.get c))
  | _, _ => false

/-- PEER_VIEW_UPDATE and PEER_AT_CAP_CLEAR; a comparison that changes to mismatch raises HOP (R60, R70). -/
def State.viewHello (s : State) (h : Hello) : State :=
  let was := s.digestMatch
  let s := { s with peer := ⟨some h.mode, h.level.map some, h.cap.map some, some h.digest⟩ }
  let s := if s.digestMatch = some false ∧ was ≠ some false then s.raiseAll flagHop else s
  { s with ade := s.ade.map fun a => if a.newRoom h then { a with atCap := none } else a }

end Sys2Proof.Machine
end

