-- ==== Sys2Proof/Machine/Pool.lean ====
section
/-! DEFINITION. The Carrier Pool Manager at the boundary (R126–R132, R134, R136): counts, idle runs, and the requests. -/

namespace Sys2Proof.Machine

/-! ## Limit parks (R129) -/

/-- PARK entries that name an awake carrier other than a WAKING one. -/
def State.parksComing (s : State) : Nat :=
  s.plc.plan.countP fun e => ids.any fun k => e.isParkOf k && s.isAwake k && s.link k != .waking

/-- The excess of R129. -/
def State.excess (s : State) : Nat := s.awakeCount - s.effLimit - s.parksComing

/-- States in which a carrier may be limit-parked. -/
def LinkState.parkable (x : LinkState) : Bool :=
  match x with
  | .acquire => true
  | .locked => true
  | .holdoff => true
  | .down => false
  | .waking => false
  | .parked => false

/-- Class of a candidate: MIRROR first, then STANDBY and DISPLACED, then TRAFFIC. -/
def ActingRole.parkClass (r : ActingRole) : Nat :=
  match r with
  | .mirror => 0
  | .standby => 1
  | .displaced => 1
  | .traffic => 2

/-- Candidates of a class, highest-numbered first. -/
def State.parkCandidates (s : State) (cls : Nat) : List CarrierId :=
  ids.reverse.filter fun k =>
    (s.link k).parkable && s.plc.plan.all (fun e => !e.isParkOf k) && (s.cpm.acting.get k).any fun r => r.parkClass == cls

/-- The request back-off of a carrier's unit is 0 (R127). -/
def State.notBackedOff (s : State) (k : CarrierId) : Bool :=
  match s.unitOf k with
  | some u => s.cpm.backoff.get u == 0
  | none => false

/-- One candidate: requested while the excess is above 0 and its unit is not under back-off (R129). -/
def State.limitPark (s : State) (k : CarrierId) : State :=
  if 0 < s.excess && s.notBackedOff k then s.linkRequest (.park k) else s

/-- LIMIT_PARK_REQUEST: every candidate in order (R129). -/
def State.limitParks (s : State) : State :=
  (s.parkCandidates 0 ++ s.parkCandidates 1 ++ s.parkCandidates 2).foldl State.limitPark s

/-! ## Waking (R131, R132) -/

/-- The eligible units of a lane's governing entry, with substitution (R159). -/
def State.eligibleUnits (s : State) (e : Four Bool) : List UnitId :=
  ids.filter fun u => ids.any fun k => e.get k && s.namedUnit k == some u

/-- Is the carrier PARKED with a wake penalty of 0? -/
def State.wakeable (s : State) (k : CarrierId) : Bool := s.link k == .parked && s.cpm.penalty.get k == 0

/-- Carriers of the eligible units of a stranded lane that could be woken; empty for a lane that is not stranded (R131). -/
def State.strandedCarriers (s : State) (z : Lane) : List CarrierId :=
  let us := s.eligibleUnits z.governing.eligible
  if z.queue.isEmpty || us.any s.inService then [] else ids.filter fun k => s.wakeable k && us.any fun u => (s.members u).contains k

/-- The carriers of all stranded lanes (R131, R132). -/
def State.allStranded (s : State) : List CarrierId := allLanes.flatMap fun q => s.strandedCarriers (s.sched.lane q.1 q.2)

/-- The hold condition (R131). -/
def State.holdWants (s : State) : Bool := s.awakeTrafficUnits none < s.effHold

/-- The backlog condition (R131). -/
def State.backlogWants (s : State) : Bool := s.cpm.backlogRun == backlogRunLimit

/-- Does any demand condition of R131 hold? -/
def State.wakeWanted (s : State) : Bool := !s.allStranded.isEmpty || s.holdWants || s.backlogWants

/-- Acts TRAFFIC or STANDBY (R132). -/
def State.addsUnit (s : State) (k : CarrierId) : Bool :=
  s.cpm.acting.get k == some .traffic || s.cpm.acting.get k == some .standby

/-- The carrier named in a wake (R132). -/
def State.wakeChoice (s : State) : Option CarrierId :=
  if s.allStranded.isEmpty then
    if s.holdWants || s.backlogWants then ids.find? fun k => s.wakeable k && s.addsUnit k && s.requestable k else none
  else ids.find? fun k => s.allStranded.contains k && s.requestable k

/-- WAKE_REQUEST: one WAKE, when no WAKE entry stands (R131). -/
def State.requestWake (s : State) : State :=
  if s.plc.plan.any (Entry.isWake none) then s
  else
    match s.wakeChoice with
    | some k => s.linkRequest (.wake k)
    | none => s

/-! ## Idle parks (R130) -/

/-- The carrier of a unit that an idle park names: the mirror of a pair whose members are both awake, else the awake member. -/
def State.idleCarrier (s : State) (u : UnitId) : CarrierId :=
  match s.mirrorOf u with
  | some m => if s.isAwake m then m else u
  | none => u

/-- Does unit `u` meet the conditions of R130? -/
def State.idleCandidate (s : State) (u : UnitId) : Bool :=
  s.inService u && s.settings.idlePark ≤ s.cpm.idleRun.get u && !s.linkTouches u && s.cpm.backoff.get u == 0
    && max s.effHold 1 ≤ s.awakeTrafficUnits (some (s.idleCarrier u))

/-- The highest-numbered candidate, at a boundary that wants no wake and does not settle (R130). -/
def State.idleChoice (s : State) : Option UnitId :=
  if s.wakeWanted || s.pbu.settling then none else ids.reverse.find? s.idleCandidate

/-- IDLE_PARK_REQUEST for unit `u`, if the conditions hold (R130). -/
def State.idlePark (s : State) (u : UnitId) : State :=
  if !s.wakeWanted && !s.pbu.settling && s.idleCandidate u then s.linkRequest (.park (s.idleCarrier u)) else s

/-! ## Counts (R121, R126, R131, R136) -/

/-- Step 1 of R127: penalties, but for one set since the boundary began (log 25), and back-offs (log 38). -/
def Cpm.lower (c : Cpm) : Cpm :=
  { c with
    penalty := .build fun k => if c.penaltyFresh.get k then c.penalty.get k else c.penalty.get k - 1
    penaltyFresh := .of false
    backoff := c.backoff.map (· - 1) }

/-- The idle run of a closing superframe (R126). -/
def nextIdleRun (run traffic offered : Nat) : Nat := if 16 * traffic < offered then min (run + 1) 65535 else 0

/-- IDLE_RUN_UPDATE: step 2 of R127. -/
def Cpm.closeCounts (c : Cpm) : Cpm :=
  { c with
    idleRun := .build fun u => nextIdleRun (c.idleRun.get u) (c.traffic.get u) (c.offered.get u)
    traffic := .of 0
    offered := .of 0 }

/-- The backlog run after a boundary (R131). -/
def nextBacklogRun (run backlog limit : Nat) : Nat := if limit < backlog then min (run + 1) backlogRunLimit else 0

/-- A revert dwell count after a boundary (R136). -/
def Substitution.tick (locked : CarrierId → Bool) (limit : Nat) (r : Substitution) : Substitution :=
  if locked r.t then { r with dwell := min (r.dwell + 1) limit } else r

/-- Step 3 of R127. -/
def State.countDemand (s : State) : State :=
  { s with cpm := { s.cpm with
      backlogRun := nextBacklogRun s.cpm.backlogRun s.cpm.backlog s.settings.wakeBacklog
      subs := s.cpm.subs.map (Substitution.tick s.isLocked s.settings.revertDwell) } }

/-- Steps 1 to 3 of R127. -/
def State.poolCounts (s : State) : State := { s with cpm := s.cpm.lower.closeCounts }.countDemand

/-- The reversion that a record calls for at a boundary (R136); `dwell` false leaves the dwell case out. -/
def State.boundaryRevert (dwell : Substitution → Bool) (s : State) (r : Substitution) : State :=
  s.requestRevert r (s.revertNow r || (dwell r && s.revertAfterDwell r))

/-- REVERT_DWELL_REACHED for the record whose standby carrier is `c` (R136). -/
def State.revertDwellReached (s : State) (c : CarrierId) : State :=
  match s.cpm.subs.find? fun r => r.s == c with
  | some r => s.requestRevert r (s.revertAfterDwell r)
  | none => s

/-- The requests of step 4 of R127, but for the idle park; that records which call for a reversion at one boundary are taken in list
order is the model's choice (log 41). -/
def State.poolRequests (s : State) (dwell : Substitution → Bool) : State :=
  let s := if s.pbu.settling then s.limitParks else s
  let s := ids.foldl State.requestPromote s
  let s := s.cpm.subs.foldl (State.boundaryRevert dwell) s
  s.requestWake

end Sys2Proof.Machine
end

