-- ==== Sys2Proof/Machine/Power.lean ====
section
/-! DEFINITION. The Power Budget Unit: power asks (R112–R114), the supply-state input (R106, R107), mode drop and mode rise
(R116–R119). -/

namespace Sys2Proof.Machine

/-! ## Power asks -/

/-- Set a level if it differs from the present one (R104). -/
def State.changeLevel (s : State) (k : CarrierId) (n : Nat) : State := if n = s.pbu.level.get k then s else s.setLevel k n

/-- Steps granted to an increase of `d` on carrier `k` (R114). -/
def State.grantable (s : State) (k : CarrierId) (d : Nat) : Nat := min d (min (s.figures.cap - s.pbu.level.get k) s.room)

/-- POWER_INCREASE: result and steps granted (R114). -/
def State.increase (s : State) (k : CarrierId) (d : Nat) : PowerResult × Nat :=
  if s.pbu.settling then (.mode, 0)
  else if !s.costs k then (.budget, 0)
  else if s.figures.cap ≤ s.pbu.level.get k then (.cap, 0)
  else if s.grantable k d = 0 then (.budget, 0)
  else (.granted, s.grantable k d)

/-- The level of carrier `c` after an ask, and the result (R113, R114). -/
def State.answerAsk (s : State) (c : CarrierId) (delta : Int) : PowerResult × Nat :=
  let level := s.pbu.level.get c
  if delta < 0 then (.granted, level - delta.natAbs)
  else ((s.increase c delta.natAbs).1, level + (s.increase c delta.natAbs).2)

/-- POWER_ASK, received on carrier `k`: the level changes and the POWER_SET is offered on `k` (R112). -/
def State.takePowerAsk (s : State) (k : CarrierId) (tag : Tag) (c : CarrierId) (delta : Int) : State :=
  let r := s.answerAsk c delta
  (s.changeLevel c r.2).offer k (.powerSet (some tag) c r.2 r.1)

/-! ## The supply-state input -/

/-- SUPPLY_STATE_CHANGE: input state and target mode at once; a change of the target sets the debounce count to 0 (R106, R107). -/
def State.supplyChange (s : State) (lineA lineB : Bool) : State :=
  let target := modeOfLines lineA lineB
  { s with pbu := { s.pbu with
      lineA := lineA
      lineB := lineB
      target := target
      debounce := if target = s.pbu.target then s.pbu.debounce else 0 } }

/-- The debounce count at a boundary (R107). -/
def Pbu.tick (p : Pbu) : Pbu := if p.target = p.effective then p else { p with debounce := min (p.debounce + 1) debounceLimit }

/-- Has the debounce count reached 16 with the modes still different? -/
def Pbu.debounced (p : Pbu) : Bool := p.target != p.effective && debounceLimit ≤ p.debounce

/-! ## Mode drop and mode rise -/

/-- Order of the modes: a drop goes up in this rank. -/
def modeRank (m : Mode) : Nat :=
  match m with
  | .full => 0
  | .economy => 1
  | .survival => 2

/-- The carrier that step 2 of R116 reduces: the highest level among those in ACQUIRE or LOCKED, the highest-numbered first. -/
def highestLevel (costs : CarrierId → Bool) (level : Four Nat) : Option CarrierId :=
  ids.foldl (fun best k =>
    if costs k then
      match best with
      | some j => if level.get j ≤ level.get k then some k else some j
      | none => some k
    else best) none

/-- Budget units of a list of levels (R105). -/
def unitsOf (costs : CarrierId → Bool) (level : Four Nat) : Nat :=
  (Four.build fun k => if costs k then level.get k + 1 else 0).sum

/-- Step 2 of R116, up to `n` single-step reductions. -/
def reduceLevels (costs : CarrierId → Bool) (budget : Nat) (n : Nat) (level : Four Nat) : Four Nat :=
  match n with
  | 0 => level
  | n + 1 =>
    if budget < unitsOf costs level then
      match highestLevel costs level with
      | some k => reduceLevels costs budget n (level.modify k (· - 1))
      | none => level
    else level

/-- Levels after steps 1 and 2 of R116, under the figures now in effect. -/
def State.droppedLevels (s : State) : Four Nat :=
  reduceLevels s.costs s.figures.budget 64 (s.pbu.level.map (min s.figures.cap))

/-- Step 3 of R116 for one carrier: SET_LEVEL, and the unsolicited POWER_SET of R117. -/
def State.reportDrop (levels : Four Nat) (s : State) (k : CarrierId) : State :=
  let n := levels.get k
  if n = s.pbu.level.get k then s
  else
    let s := s.setLevel k n
    match s.unitOf k with
    | some u => if s.costs k then s.offer (s.serviceCarrier u) (.powerSet none k n .mode) else s
    | none => s

/-- Step 5 of R116: settling is set while the awake count exceeds the effective active limit, and POWER is raised (R118). -/
def State.setSettling (s : State) : State :=
  if s.effLimit < s.awakeCount then
    ({ s with pbu := { s.pbu with settling := true } }).raiseAll flagPower
  else s.settleCheck

/-- MODE_DROP: steps 1 to 5 of R116; step 3 reports the carriers in increasing number, which is the model's choice (log 40). -/
def State.modeDrop (s : State) : State := ((ids.foldl (State.reportDrop s.droppedLevels) s).limitParks).setSettling

/-- MODE_DEBOUNCE_EXPIRY: the target mode comes into effect, POWER is raised, and the change is a drop or a rise (R107, R116,
R119). -/
def State.debounceExpiry (s : State) : State :=
  if s.pbu.debounced then
    let was := s.pbu.effective
    let s := ({ s with pbu := { s.pbu with effective := s.pbu.target, debounce := 0 } }).raiseAll flagPower
    if modeRank was < modeRank s.pbu.effective then s.modeDrop else s.settleCheck
  else s

end Sys2Proof.Machine
end

