-- ==== Sys2Proof/Machine/Messages.lean ====
section
/-! DEFINITION. Service messages at their takers (R18): HELLO, PROPOSE, AGREE, DECLINE, POWER_ASK, POWER_SET. -/

namespace Sys2Proof.Machine

/-! ## HELLO (R8, R60, R70, R123, R124) -/

/-- ROLE_CONFLICT: a HELLO of the local role sets the indication and raises HOP; another clears it (R8; log 33). -/
def State.compareRole (s : State) (role : EndRole) : State :=
  if role = s.settings.endRole then ({ s with htu := { s.htu with conflict := true } }).raiseAll flagHop
  else { s with htu := { s.htu with conflict := false } }

/-- HELLO at the Hop Timing Unit, the Adaptation Engine and the Carrier Pool Manager, and the settling test that a change of
the effective active limit calls for (R18, R60, R118); that the takers act in this order is the model's choice (log 46). -/
def State.takeHello (s : State) (h : Hello) : State :=
  let s := (s.compareRole h.role).viewHello h
  ({ s with cpm := { s.cpm with peerLimit := some h.limit, peerHold := some h.hold } }).settleCheck

/-! ## PROPOSE of kind RX_PROFILE (R84) -/

/-- The reason for which a profile proposal is declined, if any (R84). -/
def State.rxProposalRefused (s : State) (u : UnitId) (q : Nat) : Option DeclineReason :=
  let tx := s.plc.txProfile.get u
  if s.settings.top < q then some .badValue
  else if !s.unitLocked u then some .notLocked
  else if tx < q && (s.plc.dropSeen.get u || s.digestMatch != some true) then some .busy
  else if s.isDraining u then some .linkPending
  else none

/-- The target of an agreed profile proposal: now, now+1 or now+2 (R84). -/
def profileTarget (now : Hsn) (tx q : Nat) : Hsn := if q = tx then now else if q < tx then now + 1 else now + 2

/-- An agreed profile proposal: the unit's TX_PROFILE entry is removed, and replaced unless the profile already stands (R84). -/
def State.agreeProfile (s : State) (k : CarrierId) (tag : Tag) (u : UnitId) (q : Nat) : State :=
  let tx := s.plc.txProfile.get u
  let target := profileTarget s.htu.hsn tx q
  let s := s.removeEntries (Entry.isTxOf u)
  let s := if q = tx then s else s.addEntry ⟨tag, .txProfile u q, some target, .peer, .agreed, 0⟩
  s.offer k (.agree tag target)

/-- PROPOSE_RX_PROFILE, received on carrier `k`; a unit field that names a MIRROR carrier is read as its pair (R78, R84). -/
def State.takeRxProposal (s : State) (k : CarrierId) (tag : Tag) (c : CarrierId) (q : Nat) : State :=
  match s.unitOf c with
  | none => s.offer k (.decline tag .badValue)
  | some u =>
    match s.rxProposalRefused u q with
    | some r => s.offer k (.decline tag r)
    | none => s.agreeProfile k tag u q

/-! ## PROPOSE of a LINK kind (R85–R89, R82) -/

/-- The change read from a PROPOSE: the unit field of a PROMOTE or REVERT that names a MIRROR carrier is read as its pair (R78). -/
def State.readChange (s : State) (c : LinkChange) : LinkChange :=
  match c with
  | .park k => .park k
  | .wake k => .wake k
  | .promote k t => .promote ((s.unitOf k).getD k) t
  | .revert k t => .revert ((s.unitOf k).getD k) t

/-- Is the role of a carrier OFF? -/
def State.isOff (s : State) (k : CarrierId) : Bool := s.role k == .off

/-- Test 3 of R85: bad names. -/
def State.badNames (s : State) (c : LinkChange) : Bool :=
  match c with
  | .park k => s.isOff k
  | .wake k => s.isOff k
  | .promote k t => s.isOff k || s.isOff t || s.settings.endRole == .lead || !s.settings.promotion
  | .revert k t => s.isOff k || s.isOff t || s.settings.endRole == .lead || !s.settings.promotion

/-- Has a taken proposal crossed this entry: a LOCAL PROPOSED LINK entry that touches a unit it would touch (R89)? -/
def State.crosses (s : State) (c : LinkChange) (e : Entry) : Bool :=
  e.origin == .local && e.state == .proposed && (s.touches c).any fun u => s.entryTouches u e

/-- The tests of a PARK (R86). -/
def State.parkRefused (s : State) (k : CarrierId) : Option DeclineReason :=
  match s.unitOf k with
  | none => some .badValue
  | some u =>
    if s.noLockedAfter k then some .badValue
    else if s.effLimit < s.awakeCount || s.otherLocked k then none
    else if s.actsTraffic u && s.awakeTrafficUnits (some k) < s.effHold then some .held
    else if s.cpm.idleRun.get u < 64 || s.sched.holdsBlocks u then some .busy
    else none

/-- The tests of a WAKE (R82). -/
def State.wakeRefused (s : State) : Option DeclineReason :=
  if s.wakeAtLimit then some .atLimit else if s.wakeNoBudget then some .noBudget else none

/-- The tests of a PROMOTE (R87). -/
def State.promoteRefused (s : State) (k t : CarrierId) : Option DeclineReason :=
  if s.cpm.acting.get k != some .standby || s.cpm.acting.get t != some .traffic || (s.partner t).isSome then some .badValue
  else if !s.isLocked k then some .notLocked
  else none

/-- The tests of a REVERT (R87). -/
def State.revertRefused (s : State) (k t : CarrierId) : Option DeclineReason :=
  if !s.revertHolds k t then some .badValue
  else if !s.isLocked t then some .notLocked
  else none

/-- Test 6 of R85: the tests of the kind. -/
def State.linkKindRefused (s : State) (c : LinkChange) : Option DeclineReason :=
  match c with
  | .park k => s.parkRefused k
  | .wake _ => s.wakeRefused
  | .promote k t => s.promoteRefused k t
  | .revert k t => s.revertRefused k t

/-- The target of an agreed LINK proposal (R88). -/
def linkTarget (now : Hsn) (c : LinkChange) : Hsn :=
  match c with
  | .park _ => now + 4
  | .wake _ => now + 1
  | .promote _ _ => now + 2
  | .revert _ _ => now + 4

/-- LINK_AGREE: a PEER AGREED entry, its draining mark, and the AGREE (R88, R93). That PLAN of the entry is raised before CAPACITY of the
mark is the model's choice (log 52). -/
def State.agreeLink (s : State) (k : CarrierId) (tag : Tag) (c : LinkChange) : State :=
  let target := linkTarget s.htu.hsn c
  let s := s.addEntry ⟨tag, .link c, some target, .peer, .agreed, 0⟩
  (s.markDraining c).offer k (.agree tag target)

/-- Tests 5 and 6 of R85, and the agreement. -/
def State.judgeLink (s : State) (k : CarrierId) (tag : Tag) (c : LinkChange) : State :=
  if s.linkPending c then s.offer k (.decline tag .linkPending)
  else
    match s.linkKindRefused c with
    | some r => s.offer k (.decline tag r)
    | none => s.agreeLink k tag c

/-- CROSSING: at a LEAD end the taken proposal is declined, at a FOLLOW end the local entry goes and the tests go on (R89). -/
def State.crossLink (s : State) (k : CarrierId) (tag : Tag) (c : LinkChange) : State :=
  if s.plc.plan.any (s.crosses c) then
    match s.settings.endRole with
    | .lead => s.offer k (.decline tag .superseded)
    | .follow => (s.removeEntries (s.crosses c)).judgeLink k tag c
  else s.judgeLink k tag c

/-- The general tests 1 to 3 of R85: the reason of the DECLINE, if one applies. -/
def State.linkGenerallyRefused (s : State) (c : LinkChange) : Option DeclineReason :=
  if !s.hopUp then some .notLocked
  else if s.htu.conflict then some .badValue
  else if s.badNames c then some .badValue
  else none

/-- PROPOSE_LINK, received on carrier `k` (R85). -/
def State.takeLinkProposal (s : State) (k : CarrierId) (tag : Tag) (c : LinkChange) : State :=
  match s.linkGenerallyRefused (s.readChange c) with
  | some r => s.offer k (.decline tag r)
  | none => s.crossLink k tag (s.readChange c)

/-! ## Answers (R90, R91) -/

/-- The entry as agreed at a target (R90). -/
def Entry.agreedAt (target : Hsn) (e : Entry) : Entry := { e with target := some target, state := .agreed }

/-- The plan with a PROPOSED entry turned AGREED; PLAN is raised if it changes capacity (R90, R103). -/
def State.turnAgreed (s : State) (tag : Tag) (target : Hsn) (e : Entry) : State :=
  (s.setPlc fun p => { p with plan := p.plan.map fun x => if x.isProposed tag then x.agreedAt target else x }).planFlag [e]

/-- AGREE: the matching entry becomes AGREED; a LINK entry whose target is the current HSN is applied at once (R90). That PLAN of the
entry is raised before CAPACITY of its draining mark is the model's choice (log 52). -/
def State.takeAgree (s : State) (tag : Tag) (target : Hsn) : State :=
  match s.proposedEntry tag with
  | none => s
  | some e =>
    let s := s.turnAgreed tag target e
    match e.change with
    | .link c =>
      let s := s.markDraining c
      if target = s.htu.hsn then s.applyEntry (e.agreedAt target) else s
    | .txProfile _ _ => s
    | .rxProfile _ _ => s

/-- DECLINE: the matching entry is removed and its proposer is told the reason (R91, R71, R128). -/
def State.takeDecline (s : State) (tag : Tag) (reason : DeclineReason) : State :=
  match s.proposedEntry tag with
  | none => s
  | some e =>
    let s := s.removeEntries (Entry.isProposed tag)
    if reason = .superseded then s else s.backOffEntry e

/-! ## A message of a good header (R17, R18) -/

/-- A message that passes R17 is handed to its taker. -/
def State.handMessage (s : State) (k : CarrierId) (m : Message) : State :=
  match m with
  | .hello h => s.takeHello h
  | .proposeRx tag c q => s.takeRxProposal k tag c q
  | .proposeLink tag c => s.takeLinkProposal k tag c
  | .agree tag target => s.takeAgree tag target
  | .decline tag r => s.takeDecline tag r
  | .powerAsk tag c d => s.takePowerAsk k tag c d
  | .powerSet tag c n r => s.takePowerSet tag c n r

/-- A message found on carrier `k` under a header (h, f): malformed, it is discarded and counted (R17); else handed on. -/
def State.takeMessage (s : State) (k : CarrierId) (h : Hsn) (f : FrameNo) (m : Message) : State :=
  if messageMalformed s.htu.hsn h f m then s.serviceError k else s.handMessage k m

/-- The slot of a good header on carrier `k` (R17). -/
def State.takeSlot (s : State) (k : CarrierId) (x : Header) : State :=
  match x.slot with
  | none => s
  | some raw =>
    match parseMessage raw with
    | some m => s.takeMessage k x.hsn x.frame m
    | none => s.serviceError k

end Sys2Proof.Machine
end

