-- ==== Sys2Proof/Machine/Frames.lean ====
section
/-! DEFINITION. Frames: the request of a modem (R10, R16, R27, R80, R96, R151, R152) and the frame received (R11, R98, R99). -/

namespace Sys2Proof.Machine

/-! ## Header and service slot (R10, R16) -/

/-- The HELLO of a superframe (R16). -/
def State.helloOf (s : State) (h : Hsn) : Hello where
  role := s.settings.endRole
  hsn := h
  mode := s.pbu.effective
  limit := s.localLimit
  level := s.pbu.level
  cap := .of s.figures.cap
  hold := s.localHold
  digest := s.settings.digest

/-- SERVICE_SLOT_FILL: HELLO in frame 0 on the anchor, else the head of the queue, which leaves it (R16). -/
def State.fillSlot (s : State) (k : CarrierId) (h : Hsn) (f : FrameNo) : Option Message × State :=
  if f = 0 ∧ s.htu.anchor = some k then (some (.hello (s.helloOf h)), s)
  else
    match (s.scu.get k).queue with
    | m :: rest => (some m, { s with scu := s.scu.modify k fun x => { x with queue := rest } })
    | [] => (none, s)

/-- Does the carrier's unit raise DROP_REQUEST (R10)? -/
def State.dropping (s : State) (k : CarrierId) : Bool :=
  match s.unitOf k with
  | some u => (s.ade.get u).state == .dropping
  | none => false

/-- HEADER_BUILD: the fields of R10, for profile `q`. -/
def State.headerOf (s : State) (k : CarrierId) (q : Nat) (h : Hsn) (f : FrameNo) (slot : Option Message) : FrameHeader where
  profile := q
  hsn := h
  frame := f
  aligned := (s.ftr.get k).aligned
  drop := s.dropping k
  mirror := s.cpm.acting.get k == some .mirror
  slot := slot

/-- Constellation and code rate of a profile, passed with the frame's blocks (R56). -/
def Settings.modulation (p : Settings) (q : Nat) : Option (Constellation × CodeRate) :=
  (p.ladder[q]?).map fun x => (x.constellation, x.rate)

/-- The frame for a request: header with its slot, and the blocks, to the modem (R10). -/
def State.sendFrame (s : State) (k : CarrierId) (q : Nat) (h : Hsn) (f : FrameNo) (blocks : List (Option Block)) : State :=
  let r := s.fillSlot k h f
  r.2.emit (.frame k (r.2.headerOf k q h f r.1) (s.settings.modulation q) blocks)

/-- `n` positions: the blocks taken, then idle blocks (R151). -/
def padFrame (n : Nat) (bs : List Block) : List (Option Block) := bs.map some ++ List.replicate (n - bs.length) none

/-! ## Serving a LOCKED carrier (R151, R152) -/

/-- The counts of a frame are handed to the Carrier Pool Manager, saturating (R126). -/
def State.countFrame (s : State) (u : UnitId) (n traffic : Nat) : State :=
  ({ s with cpm := { s.cpm with offered := s.cpm.offered.modify u fun c => min (c + n) 6144 } }).countTraffic u traffic

/-- May a request on carrier `k` of unit `u` take blocks: carrier joined, unit in service or draining (R151)? -/
def State.maySend (s : State) (k : CarrierId) (u : UnitId) : Bool := (s.inService u || s.isDraining u) && s.isJoined k

/-- Take up to `n` blocks from the heads of the segments; their bytes are sent, and the counts handed on (R151). -/
def State.takeBlocks (s : State) (u : UnitId) (n : Nat) : List Block × State :=
  let r := s.sched.takeHead u n
  (r.1, { s with sched := r.2.sendBlocks r.1 }.countFrame u n r.1.length)

/-- A request on a unit of one carrier (R151). -/
def State.serveSingle (s : State) (k : CarrierId) (u : UnitId) (h : Hsn) (f : FrameNo) : State :=
  let q := s.plc.txProfile.get u
  let n := s.settings.blocks q
  if s.maySend k u then
    let r := s.takeBlocks u n
    r.2.sendFrame k q h f (padFrame n r.1)
  else (s.countFrame u n 0).sendFrame k q h f (padFrame n [])

/-- Set the pair frame record of a unit. -/
def State.setRecord (s : State) (u : UnitId) (r : PairRecord) : State :=
  { s with sched := { s.sched with staging := s.sched.staging.modify u fun g => { g with record := some r } } }

/-- Close a record of another (HSN, frame) (R152). -/
def State.closeOther (s : State) (u : UnitId) (h : Hsn) (f : FrameNo) : State :=
  match (s.sched.staging.get u).record with
  | some r => if r.hsn = h ∧ r.frame = f then s else { s with sched := s.sched.closeRecord u }
  | none => s

/-- A member takes the open record (R152). -/
def PairRecord.take (k : CarrierId) (r : PairRecord) : PairRecord :=
  if r.takenBy.contains k then r else { r with takenBy := r.takenBy ++ [k] }

/-- The first member's request assigns the frame's blocks (R152). -/
def State.assignRecord (s : State) (k : CarrierId) (u : UnitId) (h : Hsn) (f : FrameNo) : State :=
  let q := s.plc.txProfile.get u
  let n := s.settings.blocks q
  let r := s.takeBlocks u n
  let s := r.2.setRecord u ⟨h, f, q, padFrame n r.1, [k]⟩
  (s.sendFrame k q h f (padFrame n r.1)).closeIfTaken u

/-- Does a request on member `k` that takes no block hand on the counts (R151)? Not while the pair is in service or draining;
otherwise on the primary while it is LOCKED, and on the mirror while the primary is not. -/
def State.countsIdle (s : State) (k : CarrierId) (u : UnitId) : Bool :=
  !(s.inService u || s.isDraining u) && (k == u || !s.isLocked u)

/-- A request on a member of a mirror pair (R151, R152; log 16). -/
def State.servePair (s : State) (k : CarrierId) (u : UnitId) (h : Hsn) (f : FrameNo) : State :=
  let s := s.closeOther u h f
  let q := s.plc.txProfile.get u
  let n := s.settings.blocks q
  if s.maySend k u then
    match (s.sched.staging.get u).record with
    | some r => ((s.setRecord u (r.take k)).sendFrame k r.profile h f r.blocks).closeIfTaken u
    | none => s.assignRecord k u h f
  else
    let s := if s.countsIdle k u then s.countFrame u n 0 else s
    s.sendFrame k q h f (padFrame n [])

/-- A request on a LOCKED carrier, and the refill that follows (R29, R145, R151, R152). -/
def State.serveLocked (s : State) (k : CarrierId) (h : Hsn) (f : FrameNo) : State :=
  match s.unitOf k with
  | some u => (if s.isPair u then s.servePair k u h f else s.serveSingle k u h f).refill
  | none => s

/-- A training frame: profile 0, all idle (R27). -/
def State.trainingFrame (s : State) (k : CarrierId) (h : Hsn) (f : FrameNo) : State :=
  s.sendFrame k 0 h f (padFrame (s.settings.blocks 0) [])

/-- Answer a request by the link state; muted or unpowered, none is given (R19). -/
def State.answerRequest (s : State) (k : CarrierId) (h : Hsn) (f : FrameNo) : State :=
  match s.link k with
  | .locked => s.serveLocked k h f
  | .acquire => s.trainingFrame k h f
  | .down => s
  | .waking => s
  | .parked => s
  | .holdoff => s

/-- FRAME_REQUEST: in ACQUIRE or LOCKED, the entries of superframe `h` are applied, then the frame is built (R96, R151). -/
def State.takeRequest (s : State) (k : CarrierId) (h : Hsn) (f : FrameNo) : State :=
  if s.costs k then (s.applyDue h).answerRequest k h f else s

/-! ## Frames received (R11) -/

/-- ALIGNED of a header at the Carrier Link Controller; a bad header counts as one without (R27, R31). -/
def Clc.headerSeen (c : Clc) (aligned : Bool) : Clc :=
  { c with headerAligned := aligned, headerRun := if aligned then 0 else min (c.headerRun + 1) 4 }

/-- The header flag of carrier `k`, with the lock or loss of lock it completes (R28, R31). In PARKED the flag moves nothing, which is the
model's choice (R11, R24; log 45). -/
def State.takeAligned (s : State) (k : CarrierId) (aligned : Bool) : State :=
  match s.link k with
  | .acquire => (s.setClc k (·.headerSeen aligned)).lockIfReady k
  | .locked => (s.setClc k (·.headerSeen aligned)).unlockIfLost k
  | .down => s
  | .waking => s
  | .parked => s
  | .holdoff => s

/-- TRANSMIT_SIDE_DROP of unit `u` (R99). That the entry's removal (PLAN) comes before the fall of C (CAPACITY) is the model's choice
(log 52). -/
def State.transmitDrop (s : State) (u : UnitId) : State :=
  let s := s.removeEntries (Entry.isTxOf u)
  if s.plc.txProfile.get u = 0 then s
  else (s.setPlc fun p => { p with txProfile := p.txProfile.set u 0 }).formCapacity

/-- DROP_REQUEST of a good header on a LOCKED carrier of unit `u` (R98, R99). -/
def State.takeDropFlag (s : State) (u : UnitId) (drop : Bool) : State :=
  let s := s.setPlc fun p => { p with dropSeen := p.dropSeen.set u drop }
  if drop then s.transmitDrop u else s

/-- Profile index of a good header at the Adaptation Engine, if the carrier is LOCKED (R75). -/
def State.takeProfileIndex (s : State) (k : CarrierId) (q : Nat) : State :=
  match s.unitOf k with
  | some u => if s.isLocked k then s.headerRule u q else s
  | none => s

/-- DROP_REQUEST at the Plan Controller, if the carrier is LOCKED (R98, R99). -/
def State.takeDropOf (s : State) (k : CarrierId) (drop : Bool) : State :=
  match s.unitOf k with
  | some u => if s.isLocked k then s.takeDropFlag u drop else s
  | none => s

/-- The fields of a good header, handed on in the order of the table of R11 (log 9). -/
def State.takeHeader (s : State) (k : CarrierId) (x : Header) : State :=
  let s := s.takeProfileIndex k x.profile
  let s := { s with htu := { s.htu with lastHeader := s.htu.lastHeader.set k (some (x.hsn, x.frame)) } }
  let s := (s.takeAligned k x.aligned).takeDropOf k x.drop
  s.takeSlot k x

/-- The blocks of a frame reach the Receive Assembler when the carrier is LOCKED (R19, R175). -/
def State.takeRxFrame (s : State) (k : CarrierId) (header : Option Header) (blocks : List RxBlock) : State :=
  if s.isLocked k then s.receiveFrame k header blocks else s

/-- Link states in which a received frame is taken: a header in ACQUIRE, LOCKED and PARKED, none in HOLDOFF (R11, R28; log 43). -/
def LinkState.hears (x : LinkState) : Bool :=
  match x with
  | .acquire => true
  | .locked => true
  | .parked => true
  | .down => false
  | .waking => false
  | .holdoff => false

/-- A received frame in a state that takes it: a header marked bad, or with a profile index above the ladder, gives no field; the
latter counts as a service error (R11). The blocks are taken before the fields (log 9). -/
def State.hearFrame (s : State) (k : CarrierId) (header : Option Header) (blocks : List RxBlock) : State :=
  match header with
  | none => (s.takeRxFrame k none blocks).takeAligned k false
  | some x =>
    if s.settings.top < x.profile then ((s.serviceError k).takeRxFrame k none blocks).takeAligned k false
    else (s.takeRxFrame k (some x) blocks).takeHeader k x

/-- FRAME_RECEIVED: discarded in a link state that takes no header (R11, R19, R28; log 43). -/
def State.takeFrame (s : State) (k : CarrierId) (header : Option Header) (blocks : List RxBlock) : State :=
  if (s.link k).hears then s.hearFrame k header blocks else s

end Sys2Proof.Machine
end

