-- ==== Sys2Proof/Machine/Boundary.lean ====
section
/-! DEFINITION. The superframe boundary (R2): each block takes the event at its own state, in the order an operand gives (log 1);
expiries act inside the boundary, or are left to steps of their own (log 2). -/

namespace Sys2Proof.Machine

/-! ## Expiries -/

/-- What an expiry does; each tests anew that it still stands. An expiry that only lets others act has no effect of its own (R49,
R63, R74, R121, R128; log 31). -/
def runExpiry (s : State) (e : Expiry) : State :=
  match e with
  | .waking k => s.wakingTimeout k
  | .acquire k => s.acquireTimeout k
  | .holdoff k => s.holdoffEnd k
  | .retry k => s.faultRetry k
  | .recovery => s.recoveryAttempt
  | .debounce => s.debounceExpiry
  | .penalty _ => s
  | .backoff _ => s
  | .ask u => s.askExpiry u
  | .proposal tag => s.proposalTimeout tag
  | .rxPast u => s.rxPastTarget u
  | .dropHold _ => s
  | .upDwell _ => s
  | .branchDwell _ => s
  | .idlePark u => s.idlePark u
  | .revertDwell c => s.revertDwellReached c
  | .stall t l => s.stallLimit t l

/-- An expiry reached at a boundary: left to a step of its own, or taken at once (log 2). -/
def expire (own : Bool) (e : Expiry) (s : State) : State := if own then { s with due := s.due ++ [e] } else runExpiry s e

/-- An expiry with a condition. -/
def expireIf (own : Bool) (c : Bool) (e : Expiry) (s : State) : State := if c then expire own e s else s

/-- A step that takes an expiry: it acts if the last boundary left it, and has no effect otherwise (log 2). -/
def State.takeExpiry (s : State) (e : Expiry) : State :=
  if s.due.contains e then runExpiry { s with due := s.due.erase e } e else s

/-! ## Carrier Link Controllers (R26, R27, R30, R32, R36, R37) -/

/-- The boundary at the controller of carrier `k`, whose link state was `began` when the boundary began: an entry made within
the boundary event is not counted by it (R27, R32; log 37). -/
def State.clcBoundary (own : Bool) (began : Four LinkState) (s : State) (k : CarrierId) : State :=
  let c := s.clc.get k
  if c.link ≠ began.get k then s
  else
    match c.link with
    | .locked => if c.joined then s else (s.setClc k fun c => { c with joined := true }).formCapacity
    | .acquire =>
      let s := s.setClc k fun c => { c with acquireCount := min (c.acquireCount + 1) acquireLimit }
      expireIf own (acquireLimit ≤ (s.clc.get k).acquireCount) (.acquire k) s
    | .holdoff =>
      let s := s.setClc k fun c => { c with holdoffCount := min (c.holdoffCount + 1) holdoffLimit }
      expireIf own (holdoffLimit ≤ (s.clc.get k).holdoffCount) (.holdoff k) s
    | .waking =>
      let s := s.setClc k fun c => { c with wakingCount := min (c.wakingCount + 1) wakingLimit }
      expireIf own (wakingLimit ≤ (s.clc.get k).wakingCount) (.waking k) s
    | .down =>
      if c.faultLatch then
        let s := s.setClc k fun c => { c with retryCount := min (c.retryCount + 1) retryLimit }
        expireIf own (retryLimit ≤ (s.clc.get k).retryCount) (.retry k) s
      else s
    | .parked => s

/-- The hop recovery count (R37). -/
def State.recoveryBoundary (own : Bool) (s : State) : State :=
  if s.hopUp then s
  else
    let s := { s with htu := { s.htu with recovery := min (s.htu.recovery + 1) recoveryLimit } }
    expireIf own (s.htu.recovery = recoveryLimit) .recovery s

/-! ## Fade Trackers and Adaptation Engine (R45–R49, R62) -/

/-- The boundary at the Fade Tracker of carrier `k`. -/
def State.fadeBoundary (own : Bool) (s : State) (k : CarrierId) : State :=
  let was := (s.ftr.get k).dwell
  let s := s.closeFade k
  expireIf (own := own) (own && was < 4 && (s.ftr.get k).dwell == 4) (.branchDwell k) s

/-- The boundary at the Adaptation Engine for unit `u` (R62). -/
def State.adaptBoundary (own : Bool) (s : State) (u : UnitId) : State :=
  let was := s.ade.get u
  let s := s.tickUnit u
  let a := s.ade.get u
  let s := expireIf own (own && was.dropHold == 1) (.dropHold u) s
  let s := expireIf own (own && was.upDwell < a.upDwell && a.upDwell == s.settings.upDwell) (.upDwell u) s
  if s.askExpired u then expire own (.ask u) s else s.decideUnit u

/-! ## Plan Controller and Power Budget Unit (R92, R94, R95, R107) -/

/-- Every age increases by one, up to 15 (R92; log 38). -/
def State.agePlan (s : State) : State :=
  s.setPlc fun p => { p with plan := p.plan.map fun e => { e with age := min (e.age + 1) 15 } }

/-- Tags of the PROPOSED entries whose age has reached 4 (R92). -/
def State.timedOut (s : State) : List Tag :=
  (s.plc.plan.filter fun e => e.origin == .local && e.state == .proposed && 4 ≤ e.age).map Entry.tag

/-- The boundary at the Plan Controller (R92, R94, R95): the applies, then the RX_PROFILE entries past their target, unit by unit, then
the ages, then the timeouts; R95 puts them in one event, and this order is the model's choice (log 39). -/
def State.planBoundary (own : Bool) (s : State) : State :=
  let s := s.applyDue s.htu.hsn
  let s := ids.foldl (fun s u => expireIf own (s.plc.plan.any (Entry.isPastRx u s.htu.hsn)) (.rxPast u) s) s
  let s := s.agePlan
  s.timedOut.foldl (fun s tag => expire own (.proposal tag) s) s

/-- The boundary at the Power Budget Unit (R107). -/
def State.powerBoundary (own : Bool) (s : State) : State :=
  let s := { s with pbu := s.pbu.tick }
  expireIf own s.pbu.debounced .debounce s

/-! ## Lane and Queue Unit (R167, R168, R173) -/

/-- Is some bound lane's empty mark set? -/
def Sched.anyMarked (x : Sched) : Bool := allLanes.any fun q => (x.lane q.1 q.2).bound.isSome && (x.lane q.1 q.2).emptyMark

/-- LANE_UNBIND: marked lanes are unbound, the marks of the others updated; an unbinding is a refill event (R167; log 19). -/
def State.unbindBoundary (s : State) : State :=
  let any := s.sched.anyMarked
  let s := { s with sched := s.sched.unbindMarked.markEmpty }
  if any then s.refill else s

/-- Every stall timer advances (R168). -/
def Sched.tickLanes (x : Sched) : Sched := { x with lanes := x.lanes.map fun v => v.map Lane.tick }

/-- The lanes whose timer has reached its limit (R168). -/
def State.stalledLanes (s : State) : List (TenantId × LaneIx) := allLanes.filter fun q => (s.sched.lane q.1 q.2).stalled

/-- The backlog handed on: without what this boundary discards for stall (R173). -/
def State.backlogAfterStalls (s : State) : Nat := (s.stalledLanes.foldl (fun s q => s.stallLimit q.1 q.2) s).sched.backlog

/-- The boundary at the Lane and Queue Unit: unbindings, stall timers, backlog (R173). -/
def State.laneBoundary (own : Bool) (s : State) : State :=
  let s := s.unbindBoundary
  let s := { s with sched := s.sched.tickLanes }
  let backlog := s.backlogAfterStalls
  let s := s.stalledLanes.foldl (fun s q => expire own (.stall q.1 q.2) s) s
  { s with cpm := { s.cpm with backlog := backlog } }

/-! ## Carrier Pool Manager (R127) -/

/-- Penalties, back-offs and revert dwells that a boundary has brought to their end (log 31). -/
def State.poolExpiries (own : Bool) (old s : State) : State :=
  let s := ids.foldl (fun s k => expireIf own (own && old.cpm.penalty.get k == 1 && s.cpm.penalty.get k == 0) (.penalty k) s) s
  let s := ids.foldl (fun s u => expireIf own (own && old.cpm.backoff.get u == 1 && s.cpm.backoff.get u == 0) (.backoff u) s) s
  s.cpm.subs.foldl (fun s r =>
    expireIf own (own && r.dwell == s.settings.revertDwell && old.cpm.subs.all fun o => o.s != r.s || o.dwell < r.dwell)
      (.revertDwell r.s) s) s

/-- The dwell case of a record is made inside the boundary, unless it was left to its own step. -/
def State.dwellInside (s : State) (r : Substitution) : Bool := !s.due.contains (.revertDwell r.s)

/-- The idle park of a boundary: left to its own step where the idle run has just reached the idle-park run (R130). -/
def State.idleBoundary (own : Bool) (s : State) : State :=
  match s.idleChoice with
  | some u =>
    if own && s.cpm.idleRun.get u == s.settings.idlePark then expire own (.idlePark u) s else s.idlePark u
  | none => s

/-- The boundary at the Carrier Pool Manager (R127). -/
def State.poolBoundary (own : Bool) (s : State) : State :=
  let s := State.poolExpiries own s s.poolCounts
  (s.poolRequests s.dwellInside).idleBoundary own

/-! ## Transmit Scheduler (R142, R145) -/

/-- CREDIT_RENEWAL: due entries are applied first, then every credit is C × c_t, with every LOCKED carrier counted as joined. -/
def State.renewCredits (s : State) : State :=
  let c := s.capacityAtRenewal
  { s with sched := { s.sched with renewal := c, credit := .build fun t => c * s.settings.committed t } }

/-- The boundary at the Transmit Scheduler (R142, R145). -/
def State.scheduleBoundary (s : State) : State := ((s.applyDue s.htu.hsn).renewCredits).refill

/-! ## The whole boundary -/

/-- Every part of the boundary event, in the model's own order. -/
def allParts : List BoundaryPart :=
  [.clc 0, .clc 1, .clc 2, .clc 3, .recovery, .fade, .adapt 0, .adapt 1, .adapt 2, .adapt 3, .plan, .power, .lanes, .pool,
   .schedule]

/-- Does `a` come before `b` in an order? -/
def comesBefore (a b : BoundaryPart) (order : List BoundaryPart) : Bool := (order.takeWhile fun x => x != b).contains a

/-- An order that the part can take: every part once; the means before the decisions that read them (R46); the backlog before
the pool that reads it (R131). -/
def validOrder (order : List BoundaryPart) : Bool :=
  order.length == allParts.length && allParts.all order.contains && (ids.all fun u => comesBefore .fade (.adapt u) order)
    && comesBefore .lanes .pool order

/-- The order taken: the operand, or the model's own where it is no order (log 1). -/
def boundaryOrder (order : List BoundaryPart) : List BoundaryPart := if validOrder order then order else allParts

/-- One part of the boundary event. The four Fade Trackers are one part, taken in increasing carrier number, which is the model's choice
(R47; log 49). -/
def State.boundaryPart (own : Bool) (began : Four LinkState) (s : State) (p : BoundaryPart) : State :=
  match p with
  | .clc k => s.clcBoundary own began k
  | .recovery => s.recoveryBoundary own
  | .fade => ids.foldl (State.fadeBoundary own) s
  | .adapt u => s.adaptBoundary own u
  | .plan => s.planBoundary own
  | .power => s.powerBoundary own
  | .lanes => s.laneBoundary own
  | .pool => s.poolBoundary own
  | .schedule => s.scheduleBoundary

/-- The start of a superframe: what the last boundary left is taken first (log 2), then frame 0 of the next HSN begins (R1, R2). -/
def State.beginSuperframe (s : State) : State :=
  let s := s.due.foldl runExpiry { s with due := [] }
  { s with
    htu := { s.htu with hsn := s.htu.hsn + 1, frame := 0 }
    cpm := { s.cpm with penaltyFresh := .of false } }

/-- SUPERFRAME_BOUNDARY (R2). -/
def State.boundary (s : State) (order : List BoundaryPart) (own : Bool) : State :=
  let s := s.beginSuperframe
  (boundaryOrder order).foldl (State.boundaryPart own (s.clc.map Clc.link)) s

end Sys2Proof.Machine
end

