-- ==== Sys2Proof/Machine/Records.lean ====
section
/-! DEFINITION. The records that the read commands return (R194), with the forecast (R156). -/

namespace Sys2Proof.Machine

/-! ## Codes (R194) -/

/-- A one-byte field. -/
def byteOf (n : Nat) : Byte := BitVec.ofNat 8 n

/-- A one-byte field that may be absent or unknown: 0xFF then. -/
def optByte (n : Option Nat) : Byte :=
  match n with
  | some n => byteOf n
  | none => 0xFF

/-- Code of a link state. -/
def LinkState.code (x : LinkState) : Nat :=
  match x with
  | .down => 0
  | .waking => 1
  | .parked => 2
  | .acquire => 3
  | .locked => 4
  | .holdoff => 5

/-- Code of a role. -/
def Role.code (r : Role) : Nat :=
  match r with
  | .off => 0
  | .traffic => 1
  | .standby => 2
  | .mirror _ => 3

/-- Code of an acting role. -/
def ActingRole.code (r : ActingRole) : Nat :=
  match r with
  | .traffic => 1
  | .standby => 2
  | .mirror => 3
  | .displaced => 4

/-- Code of a combiner mode. -/
def Combiner.code (m : Combiner) : Nat :=
  match m with
  | .upper => 0
  | .lower => 1
  | .joint => 2

/-- Code of a site power mode. -/
def modeCode (m : Mode) : Nat :=
  match m with
  | .full => 0
  | .economy => 1
  | .survival => 2

/-- Code of an end role. -/
def endRoleCode (r : EndRole) : Nat :=
  match r with
  | .lead => 0
  | .follow => 1

/-- A yes or no in one byte. -/
def boolByte (b : Bool) : Byte := if b then 1 else 0

/-! ## Carrier and trace records -/

/-- A profile of the carrier's unit, absent for an OFF carrier. -/
def State.unitProfile (s : State) (k : CarrierId) (f : UnitId → Nat) : Option Nat := (s.unitOf k).map f

/-- Carrier record (READ_CARRIER). -/
def State.carrierRecord (s : State) (k : CarrierId) : List Byte :=
  let c := s.clc.get k
  let f := s.ftr.get k
  [byteOf c.link.code, byteOf (s.role k).code, optByte ((s.cpm.acting.get k).map ActingRole.code),
   optByte ((s.partner k).map Fin.val), optByte (s.unitProfile k fun u => s.plc.txProfile.get u),
   optByte (s.unitProfile k fun u => (s.ade.get u).rxProfile), byteOf (s.pbu.level.get k), optByte (s.peer.level.get k),
   optByte (s.peer.cap.get k), byteOf f.mode.code, optByte f.shortMean, optByte f.lastMean,
   byteOf (bitIf c.joined 0 + bitIf c.faultLatch 1 + bitIf (s.htu.anchor == some k) 2)]
  ++ bytes32 c.lockLosses ++ bytes32 c.wakeFailures ++ bytes32 (s.scu.get k).errors ++ bytes16 (s.cpm.penalty.get k)

/-- One entry of a trace record. -/
def RingEntry.bytes (e : RingEntry) : List Byte :=
  [byteOf e.output, byteOf e.upper, byteOf e.lower,
   byteOf (bitIf e.upperAligned 0 + bitIf e.lowerAligned 1 + 4 * e.mode.code), byteOf e.errors, byteOf e.selectivity]

/-- Trace record (READ_TRACE). -/
def State.traceRecord (s : State) (k : CarrierId) : List Byte :=
  let r := (s.ftr.get k).ring
  byteOf r.length :: r.flatMap RingEntry.bytes

/-! ## Plan record; an absent target is a free value (log 6) -/

/-- Kind, unit and value of a change. -/
def Change.bytes (c : Change) : List Byte :=
  match c with
  | .txProfile u q => [0, byteOf u.val, byteOf q]
  | .rxProfile u q => [1, byteOf u.val, byteOf q]
  | .link (.park k) => [2, byteOf k.val, 0xFF]
  | .link (.wake k) => [3, byteOf k.val, 0xFF]
  | .link (.promote k t) => [4, byteOf k.val, byteOf t.val]
  | .link (.revert k t) => [5, byteOf k.val, byteOf t.val]

/-- The flags byte of an entry. -/
def Entry.flags (e : Entry) : Byte :=
  byteOf (bitIf (e.origin == .peer) 0 + bitIf (e.state == .agreed) 1 + bitIf e.target.isSome 2)

/-- The target bytes of an entry, and the free values drawn after it. -/
def Entry.targetBytes (e : Entry) (free : Nat) : List Byte × Nat :=
  match e.target with
  | some h => (bytes16 h.toNat, free)
  | none => (bytes16 (Config.absentTarget free).toNat, free + 1)

/-- The entries of a plan record, and the free values drawn after them. -/
def planBytes (es : List Entry) (free : Nat) : List Byte × Nat :=
  match es with
  | [] => ([], free)
  | e :: rest =>
    let t := e.targetBytes free
    let r := planBytes rest t.2
    (([BitVec.ofNat 8 e.tag.toNat] ++ e.change.bytes ++ t.1 ++ [e.flags, byteOf e.age]) ++ r.1, r.2)

/-- Plan record (READ_PLAN), and the free values drawn after it. -/
def State.planRecord (s : State) : List Byte × Nat :=
  let r := planBytes (planOrder s.htu.hsn s.plc.plan) s.freeCount
  (byteOf s.plc.plan.length :: r.1, r.2)

/-! ## Capacity record with the forecast (R156) -/

/-- The units that a forecast has come to: which count, and their blocks per frame. -/
structure Forecast where
  /-- units that count -/
  on : Four Bool
  /-- blocks per frame of each unit -/
  blocks : Four Nat
  deriving DecidableEq, Repr

/-- The C of a forecast. -/
def Forecast.capacity (x : Forecast) : Nat := (Four.build fun u => if x.on.get u then x.blocks.get u else 0).sum

/-- The present units. -/
def State.present (s : State) : Forecast := ⟨.build s.inService, .build s.unitBlocks⟩

/-- A carrier's unit is taken out, or counts. -/
def Forecast.setUnit (x : Forecast) (u : Option UnitId) (b : Bool) : Forecast :=
  match u with
  | some u => { x with on := x.on.set u b }
  | none => x

/-- Is a member of `k`'s unit other than `k` LOCKED and joined? -/
def State.otherJoined (s : State) (k : CarrierId) : Bool :=
  match s.unitOf k with
  | some u => (s.members u).any fun m => m != k && s.isJoined m
  | none => false

/-- One entry applied to the units of a forecast (R156). -/
def State.forecastStep (s : State) (x : Forecast) (c : Change) : Forecast :=
  match c with
  | .txProfile u q => { x with blocks := x.blocks.set u (s.settings.blocks q) }
  | .rxProfile _ _ => x
  | .link (.park k) => if s.otherJoined k then x else x.setUnit (s.unitOf k) false
  | .link (.wake _) => x
  | .link (.promote k t) => (if s.isJoined k then x.setUnit (s.unitOf k) true else x).setUnit (s.unitOf t) false
  | .link (.revert k t) =>
    let y := x.setUnit (s.unitOf k) false
    if s.isJoined t then y.setUnit (s.unitOf t) true else y

/-- The items of a forecast: target and C after each AGREED capacity-changing entry, in plan order. -/
def State.forecastItems (s : State) (x : Forecast) (es : List Entry) : List (Hsn × Nat) :=
  match es with
  | [] => []
  | e :: rest =>
    match e.target with
    | some h =>
      if e.state = .agreed ∧ e.capacityChanging = true then
        let y := s.forecastStep x e.change
        (h, y.capacity) :: s.forecastItems y rest
      else s.forecastItems x rest
    | none => s.forecastItems x rest

/-- The forecast. -/
def State.forecast (s : State) : List (Hsn × Nat) := s.forecastItems s.present (planOrder s.htu.hsn s.plc.plan)

/-- Code of the ladder-digest comparison. -/
def digestCode (m : Option Bool) : Nat :=
  match m with
  | none => 0
  | some true => 1
  | some false => 2

/-- Capacity record (READ_CAPACITY) for tenant `t`. -/
def State.capacityRecord (s : State) (t : TenantId) : List Byte :=
  let items := s.forecast
  bytes16 s.sched.capacity ++ [byteOf (s.settings.committed t)] ++ bytes16 (s.sched.credit.get t)
  ++ bytes16 (s.sched.renewal * s.settings.committed t)
  ++ [byteOf (bitIf s.hopUp 0 + bitIf s.htu.conflict 1 + 4 * digestCode s.digestMatch), optByte (s.htu.anchor.map Fin.val)]
  ++ bytes16 s.htu.hsn.toNat ++ [byteOf items.length]
  ++ items.flatMap fun i => bytes16 i.1.toNat ++ bytes16 i.2

/-! ## Power, lane, counter and provision records -/

/-- The supply-state code of the two lines (R106). -/
def Pbu.inputState (p : Pbu) : Nat := bitIf p.lineA 1 + bitIf p.lineB 0

/-- Power record (READ_POWER). -/
def State.powerRecord (s : State) : List Byte :=
  [byteOf s.pbu.inputState, byteOf (modeCode s.pbu.target), byteOf (modeCode s.pbu.effective), byteOf s.pbu.debounce,
   boolByte s.pbu.settling, byteOf s.budgetInUse, byteOf s.figures.budget, byteOf s.figures.cap]
  ++ ids.map (fun k => byteOf (s.pbu.level.get k))
  ++ [byteOf s.localLimit, byteOf s.effLimit, boolByte s.htu.conflict, boolByte s.hopUp]

/-- Binding and in-force copy of a lane record. -/
def Lane.bindingBytes (z : Lane) : List Byte :=
  match z.bound with
  | some b => byteOf b.unit.val :: b.entry.bytes
  | none => [0xFF, 0, 0, 0]

/-- Head present and arrival HSN of a lane record, and the free values drawn after it (log 6). -/
def Lane.headBytes (z : Lane) (free : Nat) : List Byte × Nat :=
  match z.queue with
  | p :: _ => (1 :: bytes16 p.arrival.toNat, free)
  | [] => (0 :: bytes16 (Config.absentArrival free).toNat, free + 1)

/-- Lane record (READ_LANE), and the free values drawn after it. -/
def Lane.record (z : Lane) (free : Nat) : List Byte × Nat :=
  let h := z.headBytes free
  (z.written.bytes ++ z.bindingBytes ++ bytes16 z.queue.length ++ bytes16 (z.queue.map Packet.units).sum ++ h.1
    ++ [byteOf z.timer], h.2)

/-- Counter record (READ_COUNTERS). -/
def Counters.bytes (c : Counters) : List Byte :=
  bytes32 c.pktIn ++ bytes32 c.pktOut ++ bytes32 c.lane ++ bytes32 c.pool ++ bytes32 c.stall ++ bytes32 c.carrier
  ++ bytes32 c.rxLoss ++ bytes32 c.rxEvict ++ bytes32 c.egress ++ bytes32 c.linkDown ++ bytes32 c.linkError

/-- Mirror primary of a role. -/
def Role.primary (r : Role) : Option Nat :=
  match r with
  | .mirror p => some p.val
  | .off => none
  | .traffic => none
  | .standby => none

/-- The four bytes of a tenant in the provision record; one that is not enrolled has share 0, no weight, quota 0 (log 23). -/
def Settings.shareBytes (p : Settings) (t : TenantId) : List Byte :=
  [byteOf (p.committed t), optByte ((p.shares.get t).map Share.weight)] ++ bytes16 (p.quota t)

/-- Provision record (READ_PROVISION). -/
def Settings.record (p : Settings) : List Byte :=
  [boolByte p.defaults, byteOf p.format, byteOf (endRoleCode p.endRole)]
  ++ ids.map (fun k => byteOf (p.roles.get k).code) ++ ids.map (fun k => optByte (p.roles.get k).primary)
  ++ [boolByte p.promotion, byteOf p.holdMargin, byteOf p.targetMargin, byteOf p.upMargin, byteOf p.upDwell, byteOf p.dropHold,
      byteOf p.startLevel, byteOf p.full.cap, byteOf p.economy.cap, byteOf p.survival.cap, byteOf p.full.budget,
      byteOf p.economy.budget, byteOf p.survival.budget, byteOf p.full.limit, byteOf p.economy.limit, byteOf p.survival.limit]
  ++ bytes16 p.idlePark ++ bytes16 p.wakeBacklog ++ bytes16 p.revertDwell
  ++ [byteOf (bitIf (p.enrolled 0) 0 + bitIf (p.enrolled 1) 1 + bitIf (p.enrolled 2) 2 + bitIf (p.enrolled 3) 3)]
  ++ ids.flatMap p.shareBytes ++ bytes16 p.digest.toNat ++ [byteOf p.ladder.length] ++ p.ladderBytes

end Sys2Proof.Machine
end

