-- ==== Sys2Proof/Machine/Tenant.lean ====
section
/-! DEFINITION. The tenant links (R186, R187), the commands with their checks (R188–R190, R195) and the tenant reset (R196). -/

namespace Sys2Proof.Machine

/-! ## Link state (R183, R186, R187, R193) -/

/-- LINK_UP: the link becomes UP; a NOTICE is made waiting if the enabled set is non-empty (R186, R193). -/
def State.linkComesUp (s : State) (t : TenantId) : State :=
  if (s.links.get t).up then s else s.setLink t fun x => Tli.makeNotice { x with up := true }

/-- The interface at a link down: the frame in progress, the waiting frames and the commands go, the state is ARMED. -/
def Tli.goDown (x : Tli) : Tli := { x with up := false, tx := none, reply := none, notice := none, commands := [], sent := false }

/-- LINK_DOWN: the egress buffer is flushed, each packet counted (R183, R186–R188, R193). -/
def State.linkGoesDown (s : State) (t : TenantId) : State :=
  if (s.links.get t).up then
    let flushed := s.rxa.egress.get t
    let s := s.setLink t Tli.goDown
    ({ s with rxa := { s.rxa with egress := s.rxa.egress.set t [] } }).countAll (flushed.map fun _ => (t, CounterName.linkDown))
  else s

/-! ## Frames (R186, R187, R188) -/

/-- COMMAND_ENQUEUE: a command is appended; a queue of 8 holds it back at the tenant's equipment (R188; log 30). -/
def Tli.enqueue (payload : List Byte) (x : Tli) : Tli :=
  if x.commands.length < commandQueueDepth then { x with commands := x.commands ++ [payload] } else x

/-- TENANT_FRAME_RECEIVED: nothing arrives on a link that is DOWN or whose command queue holds 8 (R186, R188; log 30); else the
frame check decides between LINK_ERROR, a command and a traffic packet. -/
def State.takeTenantFrame (s : State) (t : TenantId) (bytes : List Byte) : State :=
  let x := s.links.get t
  if !x.up || commandQueueDepth ≤ x.commands.length then s
  else
    match parseLinkFrame bytes with
    | none => s.count t .linkError
    | some (lane, payload) =>
      match laneOf lane with
      | some l => s.arrival t l payload
      | none => s.setLink t (Tli.enqueue payload)

/-- EGRESS_PACKET_DELIVERED: the head packet is removed and counted (R182). -/
def State.deliverHead (s : State) (t : TenantId) : State :=
  ({ s with rxa := { s.rxa with egress := s.rxa.egress.modify t List.tail } }).count t .pktOut

/-- TENANT_FRAME_SENT: the frame in progress has left the link (R182, R187). -/
def State.frameSent (s : State) (t : TenantId) : State :=
  match (s.links.get t).tx with
  | none => s
  | some f =>
    let s := (s.setLink t fun x => { x with tx := none }).emit (.linkFrame t (linkFrameBytes f.lane f.payload))
    match f.kind with
    | .egress => s.deliverHead t
    | .reply => s
    | .notice => s

/-! ## Replies (R188) -/

/-- Statuses of a reply. -/
inductive Status
  | ok | badCommand | badLength | badIndex | badValue
  deriving DecidableEq, Repr

/-- Number of a status. -/
def Status.code (x : Status) : Nat :=
  match x with
  | .ok => 0
  | .badCommand => 1
  | .badLength => 2
  | .badIndex => 3
  | .badValue => 4

/-- What executing a command gives: its status, its data, the state after it. -/
structure Answer where
  /-- status -/
  status : Status
  /-- data of an OK reply -/
  data : List Byte
  /-- state after execution -/
  state : State
  deriving DecidableEq, Repr

/-- A command whose status is not OK changes nothing and carries no data. -/
def Answer.bad (s : State) (x : Status) : Answer := ⟨x, [], s⟩

/-- An OK reply. -/
def Answer.good (s : State) (data : List Byte) : Answer := ⟨.ok, data, s⟩

/-- The reply payload: code with bit 7 set, status, data. -/
def replyPayload (code : Byte) (a : Answer) : List Byte := [code ||| 0x80, byteOf a.status.code] ++ a.data

/-- Is a reply waiting or in progress? -/
def Tli.replying (x : Tli) : Bool := x.reply.isSome || x.tx.any fun f => f.kind == .reply

/-- The head command of link `t` is executed, when it is `code :: args` and no reply is waiting or in progress (R188). -/
def State.executeHead (s : State) (t : TenantId) (code : Byte) (args : List Byte) (f : State → Answer) : State :=
  let x := s.links.get t
  if x.commands.head? = some (code :: args) ∧ x.replying = false then
    let a := f (s.setLink t fun x => { x with commands := x.commands.tail })
    a.state.setLink t fun x => { x with reply := some (replyPayload code a) }
  else s

/-- A step of the Command Responder for the command `code :: args` of link `t`: a command that is not at the head of the queue
arrives first; it is executed if it is at the head and no reply stands in the way (R188; log 8). -/
def State.commandStep (s : State) (t : TenantId) (code : Byte) (args : List Byte) (f : State → Answer) : State :=
  if (s.links.get t).up then
    let s := if (s.links.get t).commands.head? = some (code :: args) then s else s.setLink t (Tli.enqueue (code :: args))
    s.executeHead t code args f
  else s

/-! ## The checks of R189 -/

/-- No operand bytes. -/
def noArgs (args : List Byte) (s : State) (f : Answer) : Answer := if args = [] then f else .bad s .badLength

/-- One operand byte. -/
def oneArg (args : List Byte) (s : State) (f : Byte → Answer) : Answer :=
  match args with
  | [b] => f b
  | _ => .bad s .badLength

/-- One operand byte that names a carrier. -/
def carrierArg (args : List Byte) (s : State) (f : CarrierId → Answer) : Answer :=
  oneArg args s fun b =>
    match carrierOf b.toNat with
    | some k => f k
    | none => .bad s .badIndex

/-! ## The commands (R189, R190) -/

/-- READ_CARRIER k. -/
def State.answerReadCarrier (args : List Byte) (s : State) : Answer := carrierArg args s fun k => .good s (s.carrierRecord k)

/-- READ_TRACE k. -/
def State.answerReadTrace (args : List Byte) (s : State) : Answer := carrierArg args s fun k => .good s (s.traceRecord k)

/-- READ_PLAN. -/
def State.answerReadPlan (args : List Byte) (s : State) : Answer :=
  noArgs args s (.good { s with freeCount := s.planRecord.2 } s.planRecord.1)

/-- READ_CAPACITY. -/
def State.answerReadCapacity (t : TenantId) (args : List Byte) (s : State) : Answer := noArgs args s (.good s (s.capacityRecord t))

/-- READ_POWER. -/
def State.answerReadPower (args : List Byte) (s : State) : Answer := noArgs args s (.good s s.powerRecord)

/-- READ_PROVISION. -/
def State.answerReadProvision (args : List Byte) (s : State) : Answer := noArgs args s (.good s s.settings.record)

/-- READ_LANE L. -/
def State.answerReadLane (t : TenantId) (args : List Byte) (s : State) : Answer :=
  oneArg args s fun b =>
    match laneOf b.toNat with
    | some l =>
      let r := (s.sched.lane t l).record s.freeCount
      .good { s with freeCount := r.2 } r.1
    | none => .bad s .badIndex

/-- The written entry of a lane is replaced whole (R158). -/
def State.writeLane (s : State) (t : TenantId) (l : LaneIx) (e : LaneEntry) : State :=
  { s with sched := s.sched.setLane t l fun z => { z with written := e } }

/-- WRITE_LANE L, entry. -/
def State.answerWriteLane (t : TenantId) (args : List Byte) (s : State) : Answer :=
  match args with
  | [n, a, b, c] =>
    match laneOf n.toNat with
    | none => .bad s .badIndex
    | some l =>
      match laneEntryOf a b c with
      | some e => .good (s.writeLane t l e) []
      | none => .bad s .badValue
  | _ => .bad s .badLength

/-- Set the hold of an enrolled tenant; a tenant not enrolled has none (R124, R195). -/
def State.setHold (s : State) (t : TenantId) (n : Nat) : State :=
  if s.settings.enrolled t then { s with cpm := { s.cpm with hold := s.cpm.hold.set t n } } else s

/-- SET_HOLD n. -/
def State.answerSetHold (t : TenantId) (args : List Byte) (s : State) : Answer :=
  oneArg args s fun b => if 4 < b.toNat then .bad s .badValue else .good (s.setHold t b.toNat) []

/-- READ_COUNTERS. -/
def State.answerReadCounters (t : TenantId) (args : List Byte) (s : State) : Answer :=
  noArgs args s (.good s (s.links.get t).counters.bytes)

/-- CLEAR_COUNTERS. -/
def State.answerClearCounters (t : TenantId) (args : List Byte) (s : State) : Answer :=
  noArgs args s (.good (s.setLink t fun x => { x with counters := .zero }) [])

/-- SET_NOTICE_MASK m. -/
def State.answerSetMask (t : TenantId) (args : List Byte) (s : State) : Answer :=
  oneArg args s fun m => if m.getLsbD 7 then .bad s .badValue else .good (s.setLink t (·.setMask m)) []

/-- READ_NOTICES. -/
def State.answerReadNotices (t : TenantId) (args : List Byte) (s : State) : Answer :=
  noArgs args s (.good s [(s.links.get t).raised, (s.links.get t).mask])

/-- CLEAR_NOTICES m. -/
def State.answerClearNotices (t : TenantId) (args : List Byte) (s : State) : Answer :=
  oneArg args s fun m => if m.getLsbD 7 then .bad s .badValue else .good (s.setLink t (·.lower m)) []

/-! ## The tenant reset (R196) -/

/-- Is an egress packet being sent? -/
def Tli.sendsEgress (x : Tli) : Bool := x.tx.any fun f => f.kind == .egress

/-- An egress packet being sent is abandoned and ended at once with the end delimiter (R187, R196). -/
def State.cutEgress (s : State) (t : TenantId) : State :=
  if (s.links.get t).sendsEgress then (s.setLink t fun x => { x with tx := none }).emit (.linkCut t) else s

/-- The interface at a tenant reset: counters 0, flags lowered, notice state ARMED (R196). -/
def Tli.resetTenant (x : Tli) : Tli := Tli.lower { x with counters := .zero } 0x7F

/-- Is a lane of the tenant bound? -/
def Sched.bindsAny (x : Sched) (t : TenantId) : Bool := laneIds.any fun l => (x.lane t l).bound.isSome

/-- The lanes and the stagings at a tenant reset; the unbinding of its lanes, where one was bound, is a refill event (R145, R155,
R172). -/
def State.resetLanes (s : State) (t : TenantId) : State :=
  let r := { s with sched := s.sched.resetTenant t }
  if s.sched.bindsAny t then r.refill else r

/-- RESET_TENANT: lanes and staging, receive, hold, link (R155, R172, R184, R196). -/
def State.resetTenant (s : State) (t : TenantId) : State :=
  let s := s.resetLanes t
  let s := ({ s with rxa := s.rxa.resetTenant t }).cutEgress t
  let s := { s with cpm := { s.cpm with hold := s.cpm.hold.set t 0 } }
  s.setLink t Tli.resetTenant

/-- RESET_TENANT. -/
def State.answerResetTenant (t : TenantId) (args : List Byte) (s : State) : Answer := noArgs args s (.good (s.resetTenant t) [])

/-- The codes of R189. -/
def commandCodes : List Byte :=
  [0x01, 0x02, 0x03, 0x04, 0x05, 0x06, 0x10, 0x11, 0x12, 0x18, 0x19, 0x20, 0x21, 0x22, 0x30]

/-- A code that the table of R189 does not list. -/
def State.answerUnknown (s : State) : Answer := .bad s .badCommand

end Sys2Proof.Machine
end

