-- ==== Sys2Proof/Machine/Commands.lean ====
section
/-! DEFINITION. Meanings of the tenant commands. -/

namespace Sys2Proof.Machine

/-- READ_CARRIER (R194; log 8). -/
def execReadCarrier (t : TenantId) (args : List Byte) (s : State) : Host.Outcome State Fault Refusal :=
  event s fun s => s.commandStep t 0x01 args (State.answerReadCarrier args)

/-- READ_TRACE (R41; log 8). -/
def execReadTrace (t : TenantId) (args : List Byte) (s : State) : Host.Outcome State Fault Refusal :=
  event s fun s => s.commandStep t 0x02 args (State.answerReadTrace args)

/-- READ_PLAN (R79; log 8). -/
def execReadPlan (t : TenantId) (args : List Byte) (s : State) : Host.Outcome State Fault Refusal :=
  event s fun s => s.commandStep t 0x03 args (State.answerReadPlan args)

/-- READ_CAPACITY (R156; log 8). -/
def execReadCapacity (t : TenantId) (args : List Byte) (s : State) : Host.Outcome State Fault Refusal :=
  event s fun s => s.commandStep t 0x04 args (State.answerReadCapacity t args)

/-- READ_POWER (R120; log 8). -/
def execReadPower (t : TenantId) (args : List Byte) (s : State) : Host.Outcome State Fault Refusal :=
  event s fun s => s.commandStep t 0x05 args (State.answerReadPower args)

/-- READ_PROVISION (R200; log 8). -/
def execReadProvision (t : TenantId) (args : List Byte) (s : State) : Host.Outcome State Fault Refusal :=
  event s fun s => s.commandStep t 0x06 args (State.answerReadProvision args)

/-- READ_LANE (R173; log 8). -/
def execReadLane (t : TenantId) (args : List Byte) (s : State) : Host.Outcome State Fault Refusal :=
  event s fun s => s.commandStep t 0x10 args (State.answerReadLane t args)

/-- WRITE_LANE (R158; log 8). -/
def execWriteLane (t : TenantId) (args : List Byte) (s : State) : Host.Outcome State Fault Refusal :=
  event s fun s => s.commandStep t 0x11 args (State.answerWriteLane t args)

/-- SET_HOLD (R124; log 8). -/
def execSetHold (t : TenantId) (args : List Byte) (s : State) : Host.Outcome State Fault Refusal :=
  event s fun s => s.commandStep t 0x12 args (State.answerSetHold t args)

/-- READ_COUNTERS (R191; log 8). -/
def execReadCounters (t : TenantId) (args : List Byte) (s : State) : Host.Outcome State Fault Refusal :=
  event s fun s => s.commandStep t 0x18 args (State.answerReadCounters t args)

/-- CLEAR_COUNTERS (R190; log 8). -/
def execClearCounters (t : TenantId) (args : List Byte) (s : State) : Host.Outcome State Fault Refusal :=
  event s fun s => s.commandStep t 0x19 args (State.answerClearCounters t args)

/-- SET_NOTICE_MASK (R193; log 8). -/
def execSetNoticeMask (t : TenantId) (args : List Byte) (s : State) : Host.Outcome State Fault Refusal :=
  event s fun s => s.commandStep t 0x20 args (State.answerSetMask t args)

/-- READ_NOTICES (R192; log 8). -/
def execReadNotices (t : TenantId) (args : List Byte) (s : State) : Host.Outcome State Fault Refusal :=
  event s fun s => s.commandStep t 0x21 args (State.answerReadNotices t args)

/-- CLEAR_NOTICES (R193; log 8). -/
def execClearNotices (t : TenantId) (args : List Byte) (s : State) : Host.Outcome State Fault Refusal :=
  event s fun s => s.commandStep t 0x22 args (State.answerClearNotices t args)

/-- RESET_TENANT (R196; log 8). -/
def execResetTenant (t : TenantId) (args : List Byte) (s : State) : Host.Outcome State Fault Refusal :=
  event s fun s => s.commandStep t 0x30 args (State.answerResetTenant t args)

/-- UNKNOWN_COMMAND (R189; log 8); a code of the table is not this row's. -/
def execUnknownCommand (t : TenantId) (code : Byte) (args : List Byte) (s : State) : Host.Outcome State Fault Refusal :=
  event s fun s => 
    if commandCodes.contains code then s else s.commandStep t code args State.answerUnknown

end Sys2Proof.Machine
end

