-- ==== Sys2Proof/Machine/Start.lean ====
section
/-! DEFINITION. The provisioning image (R197–R199), the built-in defaults (R200) and start-up (R25, R202). -/

namespace Sys2Proof.Machine

/-! ## Reading the image (R198) -/

/-- The byte at a place of the memory, 0 beyond its end. -/
def imageByte (mem : List Byte) (i : Nat) : Nat :=
  match mem[i]? with
  | some b => b.toNat
  | none => 0

/-- The two-byte field at a place. -/
def imageWord (mem : List Byte) (i : Nat) : Nat := imageByte mem i * 256 + imageByte mem (i + 1)

/-- Profile count n (byte 51). -/
def imageCount (mem : List Byte) : Nat := imageByte mem 51

/-- The bytes that the check covers. -/
def imageLength (mem : List Byte) : Nat := 52 + 4 * imageCount mem

/-- End role of a code. -/
def endRoleOf (n : Nat) : Option EndRole :=
  match n with
  | 0 => some .lead
  | 1 => some .follow
  | _ => none

/-- Role of a code, with the mirror primary byte. -/
def roleOf (n primary : Nat) : Option Role :=
  match n with
  | 0 => some .off
  | 1 => some .traffic
  | 2 => some .standby
  | 3 => (carrierOf primary).map Role.mirror
  | _ => none

/-- On or off. -/
def switchOf (n : Nat) : Option Bool :=
  match n with
  | 0 => some false
  | 1 => some true
  | _ => none

/-- Constellation of a code. -/
def constellationOf (n : Nat) : Option Constellation :=
  match n with
  | 0 => some .s4
  | 1 => some .s16
  | 2 => some .s32
  | 3 => some .s64
  | 4 => some .s128
  | 5 => some .s256
  | _ => none

/-- Code rate of a code. -/
def rateOf (n : Nat) : Option CodeRate :=
  match n with
  | 0 => some .r12
  | 1 => some .r23
  | 2 => some .r34
  | 3 => some .r56
  | 4 => some .r78
  | _ => none

/-- The profile whose four bytes stand at a place. -/
def imageProfile (mem : List Byte) (i : Nat) : Option Profile :=
  match constellationOf (imageByte mem i), rateOf (imageByte mem (i + 1)) with
  | some c, some r => some ⟨c, r, imageByte mem (i + 2), imageByte mem (i + 3)⟩
  | _, _ => none

/-- `n` profiles from a place on. -/
def imageLadder (mem : List Byte) (n i : Nat) : Option (List Profile) :=
  match n with
  | 0 => some []
  | n + 1 =>
    match imageProfile mem i, imageLadder mem n (i + 4) with
    | some p, some ps => some (p :: ps)
    | _, _ => none

/-- All four, if all are there. -/
def fourRoles (mem : List Byte) : Option (Four Role) :=
  match roleOf (imageByte mem 4) (imageByte mem 8), roleOf (imageByte mem 5) (imageByte mem 9),
      roleOf (imageByte mem 6) (imageByte mem 10), roleOf (imageByte mem 7) (imageByte mem 11) with
  | some a, some b, some c, some d => some ⟨a, b, c, d⟩
  | _, _, _, _ => none

/-- Share-table figures of a tenant, none where the image does not enrol it. -/
def imageShare (mem : List Byte) (t : TenantId) : Option Share :=
  if (imageByte mem 34).testBit t.val then
    some ⟨imageByte mem (35 + 4 * t.val), imageByte mem (36 + 4 * t.val), imageWord mem (37 + 4 * t.val)⟩
  else none

/-- Three figures of a mode: `i` is 0, 1, 2 for FULL, ECONOMY, SURVIVAL. -/
def imageFigures (mem : List Byte) (i : Nat) : ModeFigures :=
  ⟨imageByte mem (19 + i), imageByte mem (22 + i), imageByte mem (25 + i)⟩

/-- The settings that the image's bytes spell; none where a coded field has no meaning. -/
def imageSettings (mem : List Byte) : Option Settings :=
  match endRoleOf (imageByte mem 3), fourRoles mem, switchOf (imageByte mem 12), imageLadder mem (imageCount mem) 52 with
  | some endRole, some roles, some promotion, some ladder =>
    some {
      endRole := endRole
      roles := roles
      promotion := promotion
      ladder := ladder
      holdMargin := imageByte mem 13
      targetMargin := imageByte mem 14
      upMargin := imageByte mem 15
      upDwell := imageByte mem 16
      dropHold := imageByte mem 17
      startLevel := imageByte mem 18
      full := imageFigures mem 0
      economy := imageFigures mem 1
      survival := imageFigures mem 2
      idlePark := imageWord mem 28
      wakeBacklog := imageWord mem 30
      revertDwell := imageWord mem 32
      shares := .build (imageShare mem)
      defaults := false
      format := imageByte mem 0 }
  | _, _, _, _ => none

/-! ## The checks (R199) -/

/-- Does a figure lie within a range? -/
def within (lo hi n : Nat) : Bool := lo ≤ n && n ≤ hi

/-- Ranges of a profile (R56). -/
def Profile.inRange (p : Profile) : Bool := within 4 96 p.blocks && p.required ≤ 200

/-- Blocks per frame and required quality strictly increase (R56). -/
def ladderRises (ps : List Profile) : Bool :=
  match ps with
  | [] => true
  | p :: rest =>
    (match rest with
     | [] => true
     | q :: _ => p.blocks < q.blocks && p.required < q.required) && ladderRises rest

/-- The ladder (R56). -/
def Settings.ladderOk (p : Settings) : Bool :=
  within 1 12 p.ladder.length && p.ladder.all Profile.inRange && ladderRises p.ladder

/-- Margins and dwells (R58). -/
def Settings.marginsOk (p : Settings) : Bool :=
  p.holdMargin ≤ 32 && within 1 48 p.targetMargin && within 1 64 p.upMargin && within 1 64 p.upDwell && p.dropHold ≤ 64
    && p.holdMargin < p.targetMargin && p.targetMargin ≤ p.upMargin

/-- Ranges of a mode's figures (R108). -/
def ModeFigures.inRange (f : ModeFigures) : Bool := within 4 15 f.cap && within 5 64 f.budget && within 1 4 f.limit

/-- No figure rises from one mode to the next (R108). -/
def ModeFigures.noRise (f g : ModeFigures) : Bool := g.cap ≤ f.cap && g.budget ≤ f.budget && g.limit ≤ f.limit

/-- Figures of the modes and start level (R108). -/
def Settings.figuresOk (p : Settings) : Bool :=
  p.full.inRange && p.economy.inRange && p.survival.inRange && p.full.noRise p.economy && p.economy.noRise p.survival
    && within 4 15 p.startLevel

/-- Figures of the pool (R122). -/
def Settings.poolOk (p : Settings) : Bool :=
  within 64 16383 p.idlePark && within 64 4096 p.wakeBacklog && within 16 4096 p.revertDwell

/-- The mirror check of one carrier: a lower-numbered TRAFFIC primary that no other carrier mirrors (R21, R199). -/
def Settings.mirrorOk (p : Settings) (k : CarrierId) : Bool :=
  match p.roles.get k with
  | .mirror m => m < k && p.roles.get m == .traffic && ids.all fun j => j == k || p.roles.get j != .mirror m
  | .off => true
  | .traffic => true
  | .standby => true

/-- Roles (R199). -/
def Settings.rolesOk (p : Settings) : Bool := ids.all p.mirrorOk && ids.any fun k => p.roles.get k == .traffic

/-- Ranges of a tenant's figures (R197). -/
def Share.inRange (x : Share) : Bool := x.committed ≤ 64 && within 1 15 x.weight && x.quota ≤ 3072

/-- Shares and quotas (R199). -/
def Settings.sharesOk (p : Settings) : Bool :=
  (ids.all fun t => (p.shares.get t).all Share.inRange) && (Four.build p.committed).sum ≤ 64 && (Four.build p.quota).sum ≤ 3072

/-- Every check of R199 on the settings. -/
def Settings.ok (p : Settings) : Bool :=
  p.ladderOk && p.marginsOk && p.figuresOk && p.poolOk && p.rolesOk && p.sharesOk

/-- Format number, image length, place in the memory, and the check (R199); the enrolled byte names tenants 0–3 only (log 26). -/
def imageFrameOk (mem : List Byte) : Bool :=
  let n := imageLength mem
  imageByte mem 0 == 1 && imageWord mem 1 == n && n + 4 ≤ mem.length && imageByte mem 34 < 16
    && (mem.drop n).take 4 == bytes32 (crc32 (mem.take n))

/-- IMAGE_CHECK: the settings of an image that is taken in; none for one that is rejected (R199). -/
def takeImage (mem : List Byte) : Option Settings :=
  if imageFrameOk mem then (imageSettings mem).filter Settings.ok else none

/-- The settings in force after the read: the image's, or the built-in defaults (R199, R200). -/
def provision (memory : Option (List Byte)) : Settings := ((memory.bind takeImage).getD defaultSettings)

/-! ## Start-up (R25, R202) -/

/-- START_ALLOWANCE: carriers in increasing number, while the local active limit and the budget admit them (R25); `count` and
`cost` are those admitted so far. -/
def State.allowance (s : State) (count cost : Nat) (ks : List CarrierId) : List CarrierId :=
  match ks with
  | [] => []
  | k :: rest =>
    if s.role k = .off then s.allowance count cost rest
    else if count < s.localLimit ∧ cost + (s.startLevel + 1) ≤ s.figures.budget then
      k :: s.allowance (count + 1) (cost + (s.startLevel + 1)) rest
    else []

/-- A carrier is powered down, or up into WAKING (R25; log 35). -/
def State.startCarrier (allowed : List CarrierId) (s : State) (k : CarrierId) : State :=
  if s.role k = .off then s.command k .powerDown
  else (s.command k .powerUp).setClc k fun c => { c with link := .waking, wakingCount := 0, allowance := allowed.contains k }

/-- The settings handed to every block: acting roles (R22) and levels (R104). -/
def State.handOut (s : State) (p : Settings) : State :=
  let s := { s with settings := p, running := true }
  { s with
    cpm := { s.cpm with acting := p.roles.map Role.acting }
    pbu := { s.pbu with level := .build fun k => if s.role k = .off then 0 else s.startLevel } }

/-- PROVISIONING_TAKEN_IN: settings, DEFAULTS, frame clock, carriers, tenant ports, in the order of R202; the carriers are sent their
command in increasing number, which is the model's choice (log 47). -/
def State.startUp (s : State) (memory : Option (List Byte)) : State :=
  let s := s.handOut (provision memory)
  let s := if s.settings.defaults then s.raiseAll flagDefaults else s
  let s := { s with htu := { s.htu with hsn := 0, frame := 0 } }
  ids.foldl (State.startCarrier (s.allowance 0 0 ids)) s

end Sys2Proof.Machine
end

