-- ==== Sys2Proof/Machine/Events.lean ====
section
/-! DEFINITION. Meanings of the start-up, boundary, modem, message, supply and tenant link events. -/

namespace Sys2Proof.Machine

/-- PART_RESET (R197): every block has its reset values; the commands that wait and the count of free values drawn stay (log 29). -/
def execPartReset (lineA lineB : Bool) (s : State) : Host.Outcome State Fault Refusal :=
  .next { State.atReset lineA lineB with pending := s.pending, freeCount := s.freeCount }

/-- PROVISIONING_TAKEN_IN (R202), once after each part reset. -/
def execProvisioningTakenIn (memory : Option (List Byte)) (s : State) : Host.Outcome State Fault Refusal :=
  anyEvent s fun s => if s.running then s else s.startUp memory

/-- SUPERFRAME_BOUNDARY (R2). -/
def execSuperframeBoundary (order : List BoundaryPart) (own : Bool) (s : State) : Host.Outcome State Fault Refusal :=
  event s fun s => s.boundary order own

/-- MODEM_READY (R26). -/
def execModemReady (k : CarrierId) (s : State) : Host.Outcome State Fault Refusal :=
  event s fun s => s.modemReady k

/-- SAMPLE (R39). -/
def execSample (k : CarrierId) (x : SampleData) (s : State) : Host.Outcome State Fault Refusal :=
  event s fun s => s.takeSample k x

/-- FRAME_REQUEST (R151). -/
def execFrameRequest (k : CarrierId) (h : Hsn) (f : FrameNo) (s : State) : Host.Outcome State Fault Refusal :=
  event s fun s => s.takeRequest k h f

/-- FRAME_RECEIVED (R11). -/
def execFrameReceived (k : CarrierId) (header : Option Header) (blocks : List RxBlock)
    (s : State) : Host.Outcome State Fault Refusal :=
  event s fun s => s.takeFrame k header blocks

/-- HELLO (R18; log 7). -/
def execHello (k : CarrierId) (hdrHsn : Hsn) (hdrFrame : FrameNo) (h : Hello)
    (s : State) : Host.Outcome State Fault Refusal :=
  event s fun s => s.takeMessage k hdrHsn hdrFrame (.hello h)

/-- PROPOSE of kind RX_PROFILE (R84; log 7). -/
def execProposeRxProfile (k : CarrierId) (tag : Tag) (unit : CarrierId) (q : Nat)
    (s : State) : Host.Outcome State Fault Refusal :=
  event s fun s => s.takeMessage k s.htu.hsn 0 (.proposeRx tag unit q)

/-- PROPOSE of a LINK kind (R85; log 7). -/
def execProposeLink (k : CarrierId) (tag : Tag) (change : LinkChange) (s : State) : Host.Outcome State Fault Refusal :=
  event s fun s => s.takeMessage k s.htu.hsn 0 (.proposeLink tag change)

/-- AGREE (R90; log 7). -/
def execAgree (k : CarrierId) (tag : Tag) (target : Hsn) (s : State) : Host.Outcome State Fault Refusal :=
  event s fun s => s.takeMessage k s.htu.hsn 0 (.agree tag target)

/-- DECLINE (R91; log 7). -/
def execDecline (k : CarrierId) (tag : Tag) (reason : DeclineReason) (s : State) : Host.Outcome State Fault Refusal :=
  event s fun s => s.takeMessage k s.htu.hsn 0 (.decline tag reason)

/-- POWER_ASK (R112; log 7). -/
def execPowerAsk (k : CarrierId) (tag : Tag) (carrier : CarrierId) (delta : Int)
    (s : State) : Host.Outcome State Fault Refusal :=
  event s fun s => s.takeMessage k s.htu.hsn 0 (.powerAsk tag carrier delta)

/-- POWER_SET (R68; log 7). -/
def execPowerSet (k : CarrierId) (tag : Option Tag) (carrier : CarrierId) (level : Nat)
    (result : PowerResult)
    (s : State) : Host.Outcome State Fault Refusal :=
  event s fun s => s.takeMessage k s.htu.hsn 0 (.powerSet tag carrier level result)

/-- ENERGY (R34). -/
def execEnergy (k : CarrierId) (s : State) : Host.Outcome State Fault Refusal :=
  event s fun s => s.energy k

/-- MODEM_FAULT (R36). -/
def execModemFault (k : CarrierId) (s : State) : Host.Outcome State Fault Refusal :=
  event s fun s => s.modemFault k

/-- SUPPLY_STATE_CHANGE (R106), taken also before the settings are in (log 20). -/
def execSupplyStateChange (lineA lineB : Bool) (s : State) : Host.Outcome State Fault Refusal :=
  anyEvent s fun s => s.supplyChange lineA lineB

/-- LINK_UP (R186), taken also before the settings are in (log 20). -/
def execLinkUp (t : TenantId) (s : State) : Host.Outcome State Fault Refusal :=
  anyEvent s fun s => s.linkComesUp t

/-- LINK_DOWN (R186), taken also before the settings are in (log 20). -/
def execLinkDown (t : TenantId) (s : State) : Host.Outcome State Fault Refusal :=
  anyEvent s fun s => s.linkGoesDown t

/-- TENANT_FRAME_RECEIVED (R186). -/
def execTenantFrameReceived (t : TenantId) (bytes : List Byte) (s : State) : Host.Outcome State Fault Refusal :=
  event s fun s => s.takeTenantFrame t bytes

/-- TENANT_FRAME_SENT (R187). -/
def execTenantFrameSent (t : TenantId) (s : State) : Host.Outcome State Fault Refusal :=
  event s fun s => s.frameSent t

end Sys2Proof.Machine
end

