-- ==== Sys2Proof/Machine/Expiries.lean ====
section
/-! DEFINITION. Meanings of the expiries, as steps of their own. -/

namespace Sys2Proof.Machine

/-- WAKING_TIMEOUT (R26), as a step of its own (log 2). -/
def execWakingTimeout (k : CarrierId) (s : State) : Host.Outcome State Fault Refusal :=
  event s fun s => s.takeExpiry (.waking k)

/-- ACQUIRE_TIMEOUT (R32), as a step of its own (log 2). -/
def execAcquireTimeout (k : CarrierId) (s : State) : Host.Outcome State Fault Refusal :=
  event s fun s => s.takeExpiry (.acquire k)

/-- HOLDOFF_END (R32), as a step of its own (log 2). -/
def execHoldoffEnd (k : CarrierId) (s : State) : Host.Outcome State Fault Refusal :=
  event s fun s => s.takeExpiry (.holdoff k)

/-- FAULT_RETRY_EXPIRY (R36), as a step of its own (log 2). -/
def execFaultRetryExpiry (k : CarrierId) (s : State) : Host.Outcome State Fault Refusal :=
  event s fun s => s.takeExpiry (.retry k)

/-- HOP_RECOVERY_ATTEMPT (R37), as a step of its own (log 2). -/
def execHopRecoveryAttempt (s : State) : Host.Outcome State Fault Refusal :=
  event s fun s => s.takeExpiry .recovery

/-- MODE_DEBOUNCE_EXPIRY (R107), as a step of its own (log 2). -/
def execModeDebounceExpiry (s : State) : Host.Outcome State Fault Refusal :=
  event s fun s => s.takeExpiry .debounce

/-- WAKE_PENALTY_EXPIRY (R121), as a step of its own (log 2). -/
def execWakePenaltyExpiry (k : CarrierId) (s : State) : Host.Outcome State Fault Refusal :=
  event s fun s => s.takeExpiry (.penalty k)

/-- REQUEST_BACKOFF_EXPIRY (R128), as a step of its own (log 2). -/
def execRequestBackoffExpiry (u : UnitId) (s : State) : Host.Outcome State Fault Refusal :=
  event s fun s => s.takeExpiry (.backoff u)

/-- POWER_ASK_EXPIRY (R69), as a step of its own (log 2). -/
def execPowerAskExpiry (u : UnitId) (s : State) : Host.Outcome State Fault Refusal :=
  event s fun s => s.takeExpiry (.ask u)

/-- PROPOSAL_TIMEOUT (R92), as a step of its own (log 2). -/
def execProposalTimeout (tag : Tag) (s : State) : Host.Outcome State Fault Refusal :=
  event s fun s => s.takeExpiry (.proposal tag)

/-- RX_ENTRY_PAST_TARGET (R94), as a step of its own (log 2). -/
def execRxEntryPastTarget (u : UnitId) (s : State) : Host.Outcome State Fault Refusal :=
  event s fun s => s.takeExpiry (.rxPast u)

/-- DROP_HOLD_EXPIRY (R74), as a step of its own (log 2). -/
def execDropHoldExpiry (u : UnitId) (s : State) : Host.Outcome State Fault Refusal :=
  event s fun s => s.takeExpiry (.dropHold u)

/-- UP_DWELL_REACHED (R63), as a step of its own (log 2). -/
def execUpDwellReached (u : UnitId) (s : State) : Host.Outcome State Fault Refusal :=
  event s fun s => s.takeExpiry (.upDwell u)

/-- BRANCH_DWELL_EXPIRY (R49), as a step of its own (log 2). -/
def execBranchDwellExpiry (k : CarrierId) (s : State) : Host.Outcome State Fault Refusal :=
  event s fun s => s.takeExpiry (.branchDwell k)

/-- IDLE_PARK_RUN_REACHED (R130), as a step of its own (log 2). -/
def execIdleParkRunReached (u : UnitId) (s : State) : Host.Outcome State Fault Refusal :=
  event s fun s => s.takeExpiry (.idlePark u)

/-- REVERT_DWELL_REACHED (R136), as a step of its own (log 2). -/
def execRevertDwellReached (c : CarrierId) (s : State) : Host.Outcome State Fault Refusal :=
  event s fun s => s.takeExpiry (.revertDwell c)

/-- STALL_LIMIT (R168), as a step of its own (log 2). -/
def execStallLimit (t : TenantId) (l : LaneIx) (s : State) : Host.Outcome State Fault Refusal :=
  event s fun s => s.takeExpiry (.stall t l)

end Sys2Proof.Machine
end

