-- ==== Sys2Proof/Machine/Dispatch.lean ====
section
/-! DEFINITION. One arm per command. -/

namespace Sys2Proof.Machine

def exec (i : Instr) (s : State) : Host.Outcome State Fault Refusal :=
  match i with
  | .partReset lineA lineB => Sys2Proof.Machine.execPartReset lineA lineB s
  | .provisioningTakenIn memory => Sys2Proof.Machine.execProvisioningTakenIn memory s
  | .superframeBoundary order own => Sys2Proof.Machine.execSuperframeBoundary order own s
  | .modemReady k => Sys2Proof.Machine.execModemReady k s
  | .sample k x => Sys2Proof.Machine.execSample k x s
  | .frameRequest k h f => Sys2Proof.Machine.execFrameRequest k h f s
  | .frameReceived k header blocks => Sys2Proof.Machine.execFrameReceived k header blocks s
  | .hello k hdrHsn hdrFrame h => Sys2Proof.Machine.execHello k hdrHsn hdrFrame h s
  | .proposeRxProfile k tag unit q => Sys2Proof.Machine.execProposeRxProfile k tag unit q s
  | .proposeLink k tag change => Sys2Proof.Machine.execProposeLink k tag change s
  | .agree k tag target => Sys2Proof.Machine.execAgree k tag target s
  | .decline k tag reason => Sys2Proof.Machine.execDecline k tag reason s
  | .powerAsk k tag carrier delta => Sys2Proof.Machine.execPowerAsk k tag carrier delta s
  | .powerSet k tag carrier level result => Sys2Proof.Machine.execPowerSet k tag carrier level result s
  | .energy k => Sys2Proof.Machine.execEnergy k s
  | .modemFault k => Sys2Proof.Machine.execModemFault k s
  | .wakingTimeout k => Sys2Proof.Machine.execWakingTimeout k s
  | .acquireTimeout k => Sys2Proof.Machine.execAcquireTimeout k s
  | .holdoffEnd k => Sys2Proof.Machine.execHoldoffEnd k s
  | .faultRetryExpiry k => Sys2Proof.Machine.execFaultRetryExpiry k s
  | .hopRecoveryAttempt => Sys2Proof.Machine.execHopRecoveryAttempt s
  | .supplyStateChange lineA lineB => Sys2Proof.Machine.execSupplyStateChange lineA lineB s
  | .modeDebounceExpiry => Sys2Proof.Machine.execModeDebounceExpiry s
  | .wakePenaltyExpiry k => Sys2Proof.Machine.execWakePenaltyExpiry k s
  | .requestBackoffExpiry u => Sys2Proof.Machine.execRequestBackoffExpiry u s
  | .powerAskExpiry u => Sys2Proof.Machine.execPowerAskExpiry u s
  | .proposalTimeout tag => Sys2Proof.Machine.execProposalTimeout tag s
  | .rxEntryPastTarget u => Sys2Proof.Machine.execRxEntryPastTarget u s
  | .dropHoldExpiry u => Sys2Proof.Machine.execDropHoldExpiry u s
  | .upDwellReached u => Sys2Proof.Machine.execUpDwellReached u s
  | .branchDwellExpiry k => Sys2Proof.Machine.execBranchDwellExpiry k s
  | .idleParkRunReached u => Sys2Proof.Machine.execIdleParkRunReached u s
  | .revertDwellReached c => Sys2Proof.Machine.execRevertDwellReached c s
  | .stallLimit t l => Sys2Proof.Machine.execStallLimit t l s
  | .linkUp t => Sys2Proof.Machine.execLinkUp t s
  | .linkDown t => Sys2Proof.Machine.execLinkDown t s
  | .tenantFrameReceived t bytes => Sys2Proof.Machine.execTenantFrameReceived t bytes s
  | .tenantFrameSent t => Sys2Proof.Machine.execTenantFrameSent t s
  | .readCarrier t args => Sys2Proof.Machine.execReadCarrier t args s
  | .readTrace t args => Sys2Proof.Machine.execReadTrace t args s
  | .readPlan t args => Sys2Proof.Machine.execReadPlan t args s
  | .readCapacity t args => Sys2Proof.Machine.execReadCapacity t args s
  | .readPower t args => Sys2Proof.Machine.execReadPower t args s
  | .readProvision t args => Sys2Proof.Machine.execReadProvision t args s
  | .readLane t args => Sys2Proof.Machine.execReadLane t args s
  | .writeLane t args => Sys2Proof.Machine.execWriteLane t args s
  | .setHold t args => Sys2Proof.Machine.execSetHold t args s
  | .readCounters t args => Sys2Proof.Machine.execReadCounters t args s
  | .clearCounters t args => Sys2Proof.Machine.execClearCounters t args s
  | .setNoticeMask t args => Sys2Proof.Machine.execSetNoticeMask t args s
  | .readNotices t args => Sys2Proof.Machine.execReadNotices t args s
  | .clearNotices t args => Sys2Proof.Machine.execClearNotices t args s
  | .resetTenant t args => Sys2Proof.Machine.execResetTenant t args s
  | .unknownCommand t code args => Sys2Proof.Machine.execUnknownCommand t code args s

end Sys2Proof.Machine
end

