-- ==== Sys2Proof/Safety.lean ====
section
/-! DEFINITION. The laws of the part that every step keeps. -/

namespace Sys2Proof.Machine

/-- Before the settings are in, nothing has happened that a block could hold (R197). -/
def State.beforeStart (s : State) : Prop :=
  s.running = false → s.clc = .of .reset ∧ s.plc = .reset ∧ s.sched = .reset ∧ s.htu = .reset ∧ s.pbu.level = .of 0

/-- Credit law (R143): every committed credit lies between 0 and C × c_t, with C as taken at the last boundary. -/
def State.creditLaw (s : State) : Prop :=
  s.beforeStart ∧ ∀ t, s.sched.credit.get t ≤ s.sched.renewal * s.settings.committed t

/-- The sum of the blocks per frame over the units in service (R140). -/
def State.hopCapacity (s : State) : Nat :=
  (Four.build fun u => if (s.members u).any s.isJoined ∧ s.cpm.acting.get u = some .traffic ∧ s.plc.draining.get u = false then
    s.settings.blocks (s.plc.txProfile.get u) else 0).sum

/-- Capacity law (R140): C is that sum. -/
def State.capacityLaw (s : State) : Prop := s.beforeStart ∧ s.sched.capacity = s.hopCapacity

/-- Level law (R105): no transmit level exceeds the cap of the mode in effect. -/
def State.levelLaw (s : State) : Prop := s.settings.ok = true ∧ ∀ k, s.pbu.level.get k ≤ s.figures.cap

/-- Budget law (R105): the budget units in use never exceed the budget of the mode in effect. -/
def State.budgetLaw (s : State) : Prop := s.beforeStart ∧ s.settings.ok = true ∧ s.budgetInUse ≤ s.figures.budget

/-- Egress law (R181): the egress units held by a tenant never exceed 512. -/
def State.egressLaw (s : State) : Prop := ∀ t, unitsHeld (s.rxa.egress.get t) ≤ egressUnits

/-- The tag of a way. -/
def wayTag (w : Option Way) : Option (TenantId × LaneIx) := w.map fun x => (x.tenant, x.lane)

/-- Cache law (R178): a way stands in the set of its stream, and no two ways hold the same (tenant, lane). -/
def State.cacheLaw (s : State) : Prop :=
  ∀ i : Fin 16,
    (∀ w : Bool, ∀ t l, wayTag (s.rxa.sets[i.val].way w) = some (t, l) → setIndex t l = i) ∧
    (wayTag s.rxa.sets[i.val].way0 = wayTag s.rxa.sets[i.val].way1 → s.rxa.sets[i.val].way0 = none)

/-- Depth law: service queues hold at most 8 messages (R15), command queues at most 8 commands (R188), trace rings at most 64
entries (R41). -/
def State.depthLaw (s : State) : Prop :=
  (∀ k, (s.scu.get k).queue.length ≤ serviceQueueDepth) ∧
  (∀ t, (s.links.get t).commands.length ≤ commandQueueDepth) ∧
  (∀ k, (s.ftr.get k).ring.length ≤ ringSize)

/-- Pool bounds (R160): reserve units within the quota, shared units within the shared pool. -/
def State.poolLaw (s : State) : Prop :=
  s.beforeStart ∧ (∀ t, s.sched.reserveHeld.get t ≤ s.settings.quota t) ∧ s.sched.sharedHeld ≤ s.settings.sharedSize

/-- Units that a lane's packets hold in a part of the pool. -/
def Lane.unitsIn (p : Pool) (z : Lane) : Nat := (z.queue.map fun q => if q.pool = p then q.units else 0).sum

/-- Packet numbers of a lane are distinct and below the next number. -/
def Lane.numbered (next : Nat) (z : Lane) : Prop := (z.queue.map Packet.id).Nodup ∧ ∀ p ∈ z.queue, p.id < next

/-- Accounting law (R160): the units held are those of the packet records in the lane queues. -/
def State.accountLaw (s : State) : Prop :=
  (∀ t l, (s.sched.lane t l).numbered s.sched.nextPkt) ∧
  (∀ t, s.sched.reserveHeld.get t = (laneIds.map fun l => (s.sched.lane t l).unitsIn .reserve).sum) ∧
  s.sched.sharedHeld = (allLanes.map fun q => (s.sched.lane q.1 q.2).unitsIn .shared).sum

/-- Free units of the pool (R160). -/
def State.freeUnits (s : State) : Nat := poolUnits - (s.sched.reserveHeld.sum + s.sched.sharedHeld)

/-- Plan law, first half (R79): at most one entry per unit in each group. -/
def State.planLaw (s : State) : Prop :=
  s.beforeStart ∧ ∀ u, s.plc.plan.countP (Entry.isTxOf u) ≤ 1 ∧ s.plc.plan.countP (Entry.isRxOf u) ≤ 1
    ∧ s.plc.plan.countP (s.entryTouches u) ≤ 1

/-- Anchor law (R6): the anchor is the lowest-numbered LOCKED carrier whose role is not OFF. -/
def State.anchorLaw (s : State) : Prop := s.beforeStart ∧ s.htu.anchor = s.lowestLocked

/-- Does the unit's staging, its open record counted, hold a block of the lane? -/
def State.staged (s : State) (u : UnitId) (t : TenantId) (l : LaneIx) : Prop := (s.sched.staging.get u).holdsLane t l = true

/-- Does a continuation of the unit name the lane? -/
def State.continues (s : State) (u : UnitId) (t : TenantId) (l : LaneIx) : Prop :=
  ∃ c, ((s.sched.staging.get u).contAssured = some c ∨ (s.sched.staging.get u).contOther = some c) ∧ c.tenant = t ∧ c.lane = l

/-- Lane law (R144): a lane's blocks and continuations stand only in the staging of the unit to which it is bound, and an empty
mark is set only while it holds none. -/
def State.laneLaw (s : State) : Prop :=
  ∀ u t l, (s.staged u t l ∨ s.continues u t l → (s.sched.lane t l).boundTo u = true) ∧
    ((s.sched.lane t l).emptyMark = true → ¬ s.staged u t l)

/-- No transmitter that is free on an UP link leaves a frame waiting (R187; log 15). -/
def State.settled (s : State) : Prop := s.startTransmitters = s

end Sys2Proof.Machine
end

