-- ==== Sys2Proof/WellFormed.lean ====
section
/-! DEFINITION. Well-formed commands: operands that the row's event can carry. A field that arrives out of its range is a meaning's
own case (R17, R39, R186, R189) wherever the spec gives it an effect, and is no ill-formed command. -/

namespace Sys2Proof

open Sys2Proof.Machine

/-- A received block: 64 payload bytes (R12). -/
def blockOk (b : RxBlock) : Bool := b.payload.length == 64

/-- A received frame: profile index 0–11 (R9), at most 96 blocks of 64 bytes (R12, R56). -/
def frameOk (header : Option Header) (blocks : List RxBlock) : Bool :=
  (header.all fun h => h.profile ≤ 11) && blocks.length ≤ 96 && blocks.all blockOk

/-- A PROPOSE of kind PROMOTE or REVERT names two carriers (R13). -/
def changeOk (c : LinkChange) : Bool :=
  match c with
  | .park _ => true
  | .wake _ => true
  | .promote s t => s != t
  | .revert s t => s != t

/-- The delta of a POWER_ASK (R13). -/
def deltaOk (d : Int) : Bool := (-3 ≤ d && d ≤ -1) || (1 ≤ d && d ≤ 8)

/-- The level, tag and result of a POWER_SET (R13). -/
def powerSetOk (tag : Option Tag) (level : Nat) (result : PowerResult) : Bool :=
  level ≤ 15 && (tag.isSome || result == .mode)

/-- Operand bytes of a command: with its code at most 2048 (R186). -/
def argsOk (args : List Byte) : Bool := args.length ≤ 2047

/-- Is the command well-formed? -/
def Instr.wf (i : Instr) : Bool :=
  match i with
  | .superframeBoundary order _ => validOrder order
  | .frameReceived _ header blocks => frameOk header blocks
  | .hello _ _ _ h => Hello.inRange h
  | .proposeRxProfile _ _ _ q => q ≤ 11
  | .proposeLink _ _ c => changeOk c
  | .powerAsk _ _ _ d => deltaOk d
  | .powerSet _ tag _ level result => powerSetOk tag level result
  | .readCarrier _ args => argsOk args
  | .readTrace _ args => argsOk args
  | .readPlan _ args => argsOk args
  | .readCapacity _ args => argsOk args
  | .readPower _ args => argsOk args
  | .readProvision _ args => argsOk args
  | .readLane _ args => argsOk args
  | .writeLane _ args => argsOk args
  | .setHold _ args => argsOk args
  | .readCounters _ args => argsOk args
  | .clearCounters _ args => argsOk args
  | .setNoticeMask _ args => argsOk args
  | .readNotices _ args => argsOk args
  | .clearNotices _ args => argsOk args
  | .resetTenant _ args => argsOk args
  | .unknownCommand _ code args => argsOk args && !commandCodes.contains code
  | .partReset _ _ => true
  | .provisioningTakenIn _ => true
  | .modemReady _ => true
  | .sample _ _ => true
  | .frameRequest _ _ _ => true
  | .agree _ _ _ => true
  | .decline _ _ _ => true
  | .energy _ => true
  | .modemFault _ => true
  | .wakingTimeout _ => true
  | .acquireTimeout _ => true
  | .holdoffEnd _ => true
  | .faultRetryExpiry _ => true
  | .hopRecoveryAttempt => true
  | .supplyStateChange _ _ => true
  | .modeDebounceExpiry => true
  | .wakePenaltyExpiry _ => true
  | .requestBackoffExpiry _ => true
  | .powerAskExpiry _ => true
  | .proposalTimeout _ => true
  | .rxEntryPastTarget _ => true
  | .dropHoldExpiry _ => true
  | .upDwellReached _ => true
  | .branchDwellExpiry _ => true
  | .idleParkRunReached _ => true
  | .revertDwellReached _ => true
  | .stallLimit _ _ => true
  | .linkUp _ => true
  | .linkDown _ => true
  | .tenantFrameReceived _ _ => true
  | .tenantFrameSent _ => true

end Sys2Proof
end

