-- ==== Sys2Proof/Certificates/Slice0/Obligations.lean ====
section
/-! DEFINITION. The statements for the provers. A statement about a command says that it gives a next state, what the rules put into
that state, and that the rest is as before. -/

namespace Sys2Proof.Machine

/-! ## Words of the statements -/

/-- The command gives a next state, and that state has the property. -/
def Completes (c : Instr) (s : State) (P : State → Prop) : Prop := ∃ t, exec c s = .next t ∧ P t

/-- A running part none of whose free transmitters has a frame waiting (R187; log 15: every step leaves the part so). -/
def State.steady (s : State) : Prop := s.running = true ∧ s.settled

/-- Flags `f` are raised on a link without a frame waiting for a free transmitter (R192, R193). On an UP link that is ARMED, and whose
enabled set `e` is then not empty, this makes one NOTICE and the state SENT: it lists flags of that set, all of them where `f` is one
flag, and is started where the transmitter is free (R187; log 15), else it waits. In every other case only the flags change; a link that
is SENT makes no second NOTICE. -/
def Tli.RaisedOnly (f : BitVec 8) (x y : Tli) : Prop :=
  let e := (x.raised ||| f) &&& x.mask
  y = { x with raised := x.raised ||| f, sent := y.sent, notice := y.notice, tx := y.tx } ∧
  (f = 0 ∨ x.sent = true ∨ x.up = false ∨ e = 0 → y.sent = x.sent ∧ y.notice = x.notice ∧ y.tx = x.tx) ∧
  (f ≠ 0 → x.sent = false → x.up = true → e ≠ 0 → y.sent = true ∧
    ∃ g : BitVec 8, g ≠ 0 ∧ g &&& ~~~e = 0 ∧ (f &&& (f - 1) = 0 → g = e) ∧
      (x.tx = none → y.tx = some ⟨.notice, 0, [0xC0, g]⟩ ∧ y.notice = none) ∧
      (x.tx ≠ none → y.tx = x.tx ∧ y.notice = some [0xC0, g]))

/-- Flags `f` are raised for every tenant, and the links are otherwise unchanged. -/
def State.Raised (f : BitVec 8) (s t : State) : Prop := ∀ j, (s.links.get j).RaisedOnly f (t.links.get j)

/-- C has been formed afresh, once at most, and nothing else of the scheduler has changed: C is the sum over the units in service, and a
fall of C rescales every credit, rounding down, while a rise leaves it (R140, R143). -/
def State.CapacityFollows (s t : State) : Prop :=
  t.sched = { s.sched with
    capacity := t.hopCapacity
    credit := if t.hopCapacity < s.sched.capacity then s.sched.credit.map fun c => c * t.hopCapacity / s.sched.capacity
              else s.sched.credit }

/-- CAPACITY, if C has changed (R140, R192). -/
def State.capacityFlag (s t : State) : BitVec 8 := if t.hopCapacity = s.sched.capacity then 0 else flagCapacity

/-- PLAN, if an entry among those that `p` names is of a kind that changes capacity: every kind but RX_PROFILE (R103). -/
def State.planFlagOf (s : State) (p : Entry → Bool) : BitVec 8 := if s.plc.plan.any (fun e => p e && !e.isRx) then flagPlan else 0

/-- POWER, if the settling indication has been cleared (R118). -/
def State.settledFlag (s t : State) : BitVec 8 := if s.pbu.settling && !t.pbu.settling then flagPower else 0

/-- Settling goes on only while the awake count exceeds the effective active limit (R118). -/
def State.SettlesTo (s t : State) : Prop := t.pbu.settling = (s.pbu.settling && decide (t.effLimit < t.awakeCount))

/-- The service queues with carrier `k`'s emptied (R15). -/
def State.quiet (s : State) (k : CarrierId) : Four Scu := s.scu.modify k fun x => { x with queue := [] }

/-- The service queues with a message offered to carrier `k`: appended unless 8 wait (R15). -/
def State.offered (s : State) (k : CarrierId) (m : Message) : Four Scu :=
  s.scu.modify k fun x => if x.queue.length < 8 then { x with queue := x.queue ++ [m] } else x

/-- Message `m` waits on carrier `k`, unless its queue is full (R15). -/
def State.Awaits (t : State) (k : CarrierId) (m : Message) : Prop := m ∈ (t.scu.get k).queue ∨ 8 ≤ (t.scu.get k).queue.length

/-- No entry of the plan applies at superframe `h`. -/
def State.noneDue (s : State) (h : Hsn) : Prop := ∀ e ∈ s.plc.plan, e.isRx = false → e.state = .agreed → e.target ≠ some h

/-- Nothing is left over from the last boundary, and no entry applies at the next. -/
def State.beforeQuietBoundary (s : State) : Prop := s.running = true ∧ s.due = [] ∧ s.noneDue (s.htu.hsn + 1)

/-- Carrier `k`, not LOCKED before or after, has taken the controller state `c`, and the change is handed on (R38): CARRIER is
raised and settling tested. Service queues, Fade Tracker, level, outputs and expiries are as the statement says. -/
def State.LinkBecomes (s t : State) (k : CarrierId) (c : Clc) : Prop :=
  t = { s with clc := s.clc.set k c, scu := t.scu, ftr := t.ftr, htu := t.htu, cpm := t.cpm,
               pbu := { s.pbu with level := t.pbu.level, settling := t.pbu.settling }, links := t.links, out := t.out, due := t.due } ∧
  s.SettlesTo t ∧ s.Raised (flagCarrier ||| s.settledFlag t) t

/-- A carrier silenced on its change: queue emptied, no other block's state touched. -/
def State.Silenced (s t : State) (k : CarrierId) : Prop :=
  t.scu = s.quiet k ∧ t.ftr = s.ftr ∧ t.htu = s.htu ∧ t.pbu.level = s.pbu.level

/-- The controller on entry to ACQUIRE (R27), with the wake mark set if `mark` (R33). -/
def Clc.acquiring (c : Clc) (mark : Bool) : Clc :=
  { c with link := .acquire, acquireCount := 0, alignedRun := 0, unalignedRun := 0, headerRun := 0, headerAligned := false,
           joined := false, wakeMark := mark || c.wakeMark }

/-- An acquisition start at level `n` (R27, R110): level set, tracker cleared, SET_LEVEL and UNMUTE sent after `before`. -/
def State.StartedAt (s t : State) (k : CarrierId) (n : Nat) (c : Clc) (before : List Output) : Prop :=
  s.LinkBecomes t k c ∧ t.scu = s.scu ∧ t.cpm = s.cpm ∧ t.pbu.level = s.pbu.level.set k n ∧
  t.ftr = s.ftr.modify k (fun f => { f with ring := [], aligned := false, errorRun := 0, acc := ⟨0, 0, 0, 0, 0⟩ }) ∧
  t.out = before ++ [.modem k (.setLevel n), .modem k .unmute]

/-- The level of an acquisition start, by the room (R110): none is a refusal. -/
def State.startRule (s : State) (n : Option Nat) : Prop :=
  let r := s.figures.budget - s.budgetInUse
  let l := min s.settings.startLevel s.figures.cap
  (l + 1 ≤ r → n = some l) ∧ (r < l + 1 → 5 ≤ r → n = some (r - 1)) ∧ (r < l + 1 → r < 5 → n = none)

/-- The controller on a fault (R36). -/
def Clc.faulted (c : Clc) : Clc :=
  { c with link := .down, faultLatch := true, joined := false, wakeMark := false, failedWakes := 0, acquireCount := 0,
           holdoffCount := 0, wakingCount := 0, retryCount := 0 }

/-- The controller of a carrier that loses lock (R31, R27). -/
def Clc.unlocked (c : Clc) : Clc := { c.acquiring false with lockLosses := satSucc32 c.lockLosses }

/-- A LINK request accepted (R83): a LOCAL PROPOSED entry with the next tag, PLAN raised, the PROPOSE offered on the anchor. -/
def State.Requested (s t : State) (c : LinkChange) : Prop :=
  t = { s with
    plc := { s.plc with plan := s.plc.plan ++ [⟨s.plc.nextTag, .link c, none, .local, .proposed, 0⟩], nextTag := s.plc.nextTag + 1 }
    scu := match s.htu.anchor with
      | some a => s.offered a (.proposeLink s.plc.nextTag c)
      | none => s.scu
    links := t.links, out := [], due := t.due } ∧ s.Raised flagPlan t

/-- A LINK request `c` has been accepted in the course of an event (R83): its LOCAL PROPOSED entry stands, its PROPOSE waits on the
anchor. -/
def State.Asked (t : State) (c : LinkChange) : Prop :=
  ∃ e ∈ t.plc.plan, e.change = .link c ∧ e.target = none ∧ e.origin = .local ∧ e.state = .proposed ∧ e.age ≤ 1 ∧
    ∀ a, t.htu.anchor = some a → t.Awaits a (.proposeLink e.tag c)

/-- Nothing stands in the way of a LINK request but its own kind's test (R83). -/
def State.linkOpen (s : State) : Prop := s.htu.anchor ≠ none ∧ s.htu.conflict = false ∧ ∀ e ∈ s.plc.plan, e.link? = none

/-- The request back-off of the carrier's unit is at most `n`. -/
def State.backoffWithin (s : State) (n : Nat) (k : CarrierId) : Prop := ∃ u, s.unitOf k = some u ∧ s.cpm.backoff.get u ≤ n

/-- Nothing stands in the way of a LINK request, and the end asks for promotions and reversions: a LEAD with promotion on (R83, R134,
R136). -/
def State.substitutes (s : State) : Prop := s.linkOpen ∧ s.settings.endRole = .lead ∧ s.settings.promotion = true

/-- Carrier `c` may act for another (R134): it acts STANDBY, alone in its unit, LOCKED and joined, not backed off beyond `n`. -/
def State.standsBy (s : State) (n : Nat) (c : CarrierId) : Prop :=
  s.cpm.acting.get c = some .standby ∧ s.members c = [c] ∧ s.isJoined c = true ∧ s.backoffWithin n c

/-- The requests of the event at which carrier `k` leaves LOCKED with the hop still up: the reversion of the one record in which it is
the substitute of a LOCKED carrier (R136), and, unless it is PARKED, its promotion by the lowest-numbered carrier that may act for it
(R134). -/
def State.AsksAtLoss (s t : State) (k : CarrierId) : Prop :=
  s.substitutes → t.htu.anchor ≠ none → s.backoffWithin 0 k →
    (∀ r ∈ s.cpm.subs, r.s = k → (∀ q ∈ s.cpm.subs, q.s = k → q = r) → t.isLocked r.t = true → s.backoffWithin 0 r.t →
      t.Asked (.revert k r.t)) ∧
    (s.cpm.acting.get k = some .traffic → s.members k = [k] → (∀ r ∈ s.cpm.subs, r.s ≠ k) → s.cpm.subs.length < 2 →
      t.link k ≠ .parked → ∀ c, s.standsBy 0 c → (∀ j < c, ¬s.standsBy 0 j) → t.Asked (.promote c k))

/-- The request of the event at which carrier `k` enters LOCKED: the reversion of the one record in which it is replaced by a carrier
that is not LOCKED (R136). -/
def State.AsksAtLock (s t : State) (k : CarrierId) : Prop :=
  s.substitutes → s.backoffWithin 0 k → ∀ r ∈ s.cpm.subs, r.t = k → (∀ q ∈ s.cpm.subs, q.t = k → q = r) →
    t.isLocked r.s = false → s.backoffWithin 0 r.s → t.Asked (.revert r.s k)

/-- What follows when carrier `k` leaves LOCKED (R6, R7, R31): the anchor is formed anew; a unit left without a LOCKED member has no
profile entry and its context is STEADY; a unit left without a joined member holds no staged block and no pair frame record, and where
it held a block, be it in that record alone, its lanes are unbound (R154, R167); a hop left without an anchor has an empty plan, no
credit, no role conflict and no view of the peer. C is formed afresh, with CAPACITY where it changes; where the unit held no block and the
hop stays up, a fall rescales the credits and nothing more touches them (R140, R143). Promotion and reversion are asked for (R134,
R136). -/
def State.LostLocked (s t : State) (k : CarrierId) : Prop :=
  t.htu.anchor = t.lowestLocked ∧ t.htu.hsn = s.htu.hsn ∧ t.htu.frame = s.htu.frame ∧
  (∀ u, s.unitOf k = some u → t.unitLocked u = false →
    t.plc.plan.all (fun e => !e.isRxOf u && !e.isTxOf u) = true ∧ t.plc.dropSeen.get u = false ∧ (t.ade.get u).state = .steady ∧
      (t.ade.get u).ask = none) ∧
  (∀ u, s.unitOf k = some u → t.unitJoined u = false → (t.sched.staging.get u).held = 0 ∧ (t.sched.staging.get u).record = none ∧
    ((s.sched.staging.get u).held ≠ 0 → ∀ j l, (t.sched.lane j l).boundTo u = false)) ∧
  (t.htu.anchor = none → t.plc.plan = [] ∧ t.sched.credit = .of 0 ∧ t.htu.conflict = false ∧ t.htu.recovery = 0 ∧
    t.peer = .unknown ∧ t.cpm.subs = [] ∧ t.cpm.peerHold = none ∧ t.cpm.peerLimit = none) ∧
  (s.capacityLaw → t.sched.capacity = t.hopCapacity ∧
    (t.hopCapacity ≠ s.sched.capacity → ∀ j, (t.links.get j).raised &&& flagCapacity = flagCapacity) ∧
    ((∀ u, s.unitOf k = some u → (s.sched.staging.get u).held = 0) → t.htu.anchor ≠ none →
      t.sched.credit = if t.hopCapacity < s.sched.capacity then s.sched.credit.map fun c => c * t.hopCapacity / s.sched.capacity
        else s.sched.credit)) ∧
  s.AsksAtLoss t k ∧
  (t.settings = s.settings ∧ t.askTag = s.askTag ∧ t.freeCount = s.freeCount ∧ t.pending = s.pending ∧ t.running = s.running ∧
    t.due = s.due ∧ t.pbu.level = s.pbu.level ∧ t.pbu.effective = s.pbu.effective)

/-- A candidate of R129 whose unit is not backed off beyond `n`. -/
def State.mayPark (s : State) (n : Nat) (k : CarrierId) : Prop :=
  (s.link k = .acquire ∨ s.link k = .locked ∨ s.link k = .holdoff) ∧ s.backoffWithin n k ∧ s.cpm.acting.get k ≠ none

/-- Place of a carrier in the candidate order of R129, first to last: MIRROR, STANDBY and DISPLACED, TRAFFIC; within a class the
highest-numbered first. -/
def State.parkPlace (s : State) (k : CarrierId) : Nat :=
  (match s.cpm.acting.get k with
   | some .mirror => 0
   | some .standby => 4
   | some .displaced => 4
   | some .traffic => 8
   | none => 12) + (3 - k.val)

/-- The first candidate of a limit park, which another LOCKED carrier lets go (R129, R83). -/
def State.FirstPark (s : State) (n : Nat) (k : CarrierId) : Prop :=
  s.mayPark n k ∧ (∀ j, j ≠ k → s.mayPark n j → s.parkPlace k < s.parkPlace j) ∧ ∃ j, j ≠ k ∧ s.isLocked j = true

/-- The reply is waiting, or in progress where the transmitter was free. -/
def Tli.Replies (x y : Tli) (p : List Byte) : Prop :=
  (x.tx = none → y.tx = some ⟨.reply, 0, p⟩ ∧ y.reply = none) ∧ (x.tx ≠ none → y.tx = x.tx ∧ y.reply = some p)

/-- The Command Responder takes the command `code :: args` of link `j` (R188): the link is UP, no reply waits or is in progress, and
the command stands at the head of the queue, or arrives at an empty queue; `rest` waits behind it. -/
def State.TakesCommand (s : State) (j : TenantId) (code : Byte) (args : List Byte) (rest : List (List Byte)) : Prop :=
  s.steady ∧ (s.links.get j).up = true ∧ (s.links.get j).replying = false ∧
    ((s.links.get j).commands = (code :: args) :: rest ∨ (s.links.get j).commands = [] ∧ rest = [])

/-- The command is answered with a payload and changes nothing but the link's reply, transmitter and queue. -/
def State.AnsweredOnly (s t : State) (j : TenantId) (rest : List (List Byte)) (p : List Byte) : Prop :=
  t = { s with links := s.links.set j (t.links.get j), out := [], freeCount := t.freeCount } ∧
  (s.links.get j).Replies (t.links.get j) p ∧
  t.links.get j = { s.links.get j with commands := rest, reply := (t.links.get j).reply, tx := (t.links.get j).tx }

end Sys2Proof.Machine

open Sys2Proof Sys2Proof.Machine

/-! ## Steps, start-up, boundary -/

/-- A step runs the command at the front of the queue on the state with the queue's rest. -/
def Obligations.StepRunsTheFrontCommand : Prop :=
  ∀ (c : Instr) (rest : List Instr) (s : State), s.pending = c :: rest → step s = exec c { s with pending := rest }

/-- The model's choice (log 3): on an empty queue a running part counts the next frame of the superframe, up to frame 63, and a part
that does not run yet stays as it is; nothing is put on the links. -/
def Obligations.IdleStepCountsTheFrame : Prop :=
  ∀ s : State, s.pending = [] → ∃ t, step s = .next t ∧ t.out = [] ∧
    (s.running = true → s.htu.frame.val < 63 → t = { s with out := [], htu := { s.htu with frame := s.htu.frame + 1 } }) ∧
    (s.running = true → s.htu.frame.val = 63 → t = { s with out := [] }) ∧
    (s.running = false → t = { s with out := [] })

/-- No command stops the part, which is the model's reading (log 34): whatever the state, each gives a next state. In it no free
transmitter of a link that is UP leaves a frame waiting (R187), which is the model's choice of when a transmitter starts (log 15). -/
def Obligations.EveryCommandGivesANextState : Prop :=
  ∀ (c : Instr) (s : State), Completes c s fun t => t.settled

/-- At the release of RESET every block has its reset values, and input state, target mode and effective mode come from the lines.
The commands that wait and the count of free values stay (the model's choice, log 29). That the backlog handed on (log 28), the number
of the next packet (log 14), the marks of fresh penalties (log 25), the expiries left (log 2) and the outputs (log 13) begin at 0, clear
or empty is the model's choice as well. The settings, levels and acting roles, which the spec gives no value before the read ends, are
the model's (log 5) and not part of this statement. -/
def Obligations.PartResetGivesResetValues : Prop :=
  ∀ (a b : Bool) (s : State), Completes (.partReset a b) s fun t =>
    t.running = false ∧ t.htu = ⟨0, 0, none, false, .of none, 0⟩ ∧
    (∀ k, t.scu.get k = ⟨[], 0⟩ ∧ t.clc.get k = ⟨.down, false, 0, 0, 0, false, false, 0, 0, 0, false, 0, false, 0, 0, 0⟩ ∧
      t.ftr.get k = ⟨[], false, 0, ⟨0, 0, 0, 0, 0⟩, none, 0, .joint, 4⟩ ∧
      t.cpm.penalty.get k = 0 ∧ t.cpm.penaltyFresh.get k = false) ∧
    (∀ u, t.ade.get u = ⟨0, .steady, 0, 0, none, none, none, none, none, none⟩ ∧ t.plc.txProfile.get u = 0 ∧
      t.plc.dropSeen.get u = false ∧ t.plc.draining.get u = false ∧ t.cpm.traffic.get u = 0 ∧ t.cpm.offered.get u = 0 ∧
      t.cpm.idleRun.get u = 0 ∧ t.cpm.backoff.get u = 0 ∧ t.sched.staging.get u = ⟨[], [], none, none, none⟩) ∧
    t.askTag = 0 ∧ t.peer = ⟨none, .of none, .of none, none⟩ ∧ t.plc.plan = [] ∧ t.plc.nextTag = 0 ∧
    t.pbu.lineA = a ∧ t.pbu.lineB = b ∧ t.pbu.effective = t.pbu.target ∧
    t.pbu.target = (if a then .survival else if b then .economy else .full) ∧ t.pbu.debounce = 0 ∧ t.pbu.settling = false ∧
    t.cpm.peerHold = none ∧ t.cpm.peerLimit = none ∧ t.cpm.backlog = 0 ∧ t.cpm.backlogRun = 0 ∧ t.cpm.subs = [] ∧
    t.sched.capacity = 0 ∧ t.sched.renewal = 0 ∧ t.sched.ptrAssured = 0 ∧ t.sched.ptrElastic = 0 ∧ t.sched.ptrExcess = 0 ∧
    t.sched.sharedHeld = 0 ∧ t.sched.nextPkt = 0 ∧
    (∀ j l, t.sched.lane j l = ⟨⟨false, .bulk, .of true, .watchdog, 255⟩, none, false, [], 0, 0⟩) ∧
    (∀ j, t.sched.credit.get j = 0 ∧ t.sched.lanePtr.get j = ⟨0, 0, 0⟩ ∧ t.sched.reserveHeld.get j = 0 ∧ t.cpm.hold.get j = 0 ∧
      t.rxa.egress.get j = [] ∧ t.rxa.hold.get j = none ∧
      t.links.get j = ⟨false, none, none, none, [], ⟨0, 0, 0, 0, 0, 0, 0, 0, 0, 0, 0⟩, 0, 0, false⟩) ∧
    (∀ i : Fin 16, t.rxa.sets[i.val] = ⟨none, none, false⟩) ∧
    t.due = [] ∧ t.out = [] ∧ t.pending = s.pending ∧ t.freeCount = s.freeCount

/-- A memory that does not answer, or whose image fails a check, puts the built-in defaults into force and raises DEFAULTS; all four
carriers wake, with a start allowance of four, two or one by the mode. That the wake of the carriers raises no CARRIER beside
DEFAULTS is the model's reading (log 35) of R25 and R202 against the CARRIER row of R192 and R38; that POWER_UP goes to the carriers in
increasing number is the model's choice (log 47). -/
def Obligations.DefaultsComeIntoForce : Prop :=
  ∀ (m : Option (List Byte)) (s : State), s.running = false → s.settled → s.clc = .of .reset → m.bind takeImage = none →
    Completes (.provisioningTakenIn m) s fun t =>
      t.running = true ∧ t.settings = defaultSettings ∧ t.settings.defaults = true ∧ t.htu.hsn = 0 ∧ t.htu.frame = 0 ∧
      s.Raised flagDefaults t ∧
      t.out = [.modem 0 .powerUp, .modem 1 .powerUp, .modem 2 .powerUp, .modem 3 .powerUp] ∧
      (∀ k, (t.clc.get k).link = .waking ∧ (t.clc.get k).wakingCount = 0 ∧ t.cpm.acting.get k = some .traffic ∧
        (t.clc.get k).allowance = decide (k.val < match s.pbu.effective with | .full => 4 | .economy => 2 | .survival => 1) ∧
        t.pbu.level.get k = match s.pbu.effective with | .full => 12 | .economy => 11 | .survival => 7) ∧
      t = { s with running := true, settings := t.settings, htu := t.htu, clc := t.clc, cpm := { s.cpm with acting := t.cpm.acting },
                   pbu := { s.pbu with level := t.pbu.level }, links := t.links, out := t.out }

namespace Sys2Proof.Machine

/-- The byte of a memory at a place, and the two-byte field there, most significant byte first (R198). -/
def byteAt (m : List Byte) (i : Nat) : Nat := ((m[i]?).map BitVec.toNat).getD 0
def wordAt (m : List Byte) (i : Nat) : Nat := 256 * byteAt m i + byteAt m (i + 1)

/-- The settings are those that the image's bytes spell, field by field in the layout and coding of R198 and R194; the mirror primary
byte of a carrier that is not MIRROR, and the bytes of a tenant not enrolled, are not read. -/
def Settings.SpelledBy (p : Settings) (m : List Byte) : Prop :=
  let b := byteAt m
  let w := wordAt m
  p.format = b 0 ∧ w 1 = 52 + 4 * b 51 ∧ b 3 = (match p.endRole with | .lead => 0 | .follow => 1) ∧
  (∀ k : CarrierId, b (4 + k.val) = (match p.roles.get k with | .off => 0 | .traffic => 1 | .standby => 2 | .mirror _ => 3) ∧
    ∀ j : CarrierId, p.roles.get k = .mirror j → b (8 + k.val) = j.val) ∧
  b 12 = (if p.promotion then 1 else 0) ∧
  p.holdMargin = b 13 ∧ p.targetMargin = b 14 ∧ p.upMargin = b 15 ∧ p.upDwell = b 16 ∧ p.dropHold = b 17 ∧ p.startLevel = b 18 ∧
  p.full = ⟨b 19, b 22, b 25⟩ ∧ p.economy = ⟨b 20, b 23, b 26⟩ ∧ p.survival = ⟨b 21, b 24, b 27⟩ ∧
  p.idlePark = w 28 ∧ p.wakeBacklog = w 30 ∧ p.revertDwell = w 32 ∧
  (∀ j : TenantId, p.shares.get j =
    if (b 34).testBit j.val then some ⟨b (35 + 4 * j.val), b (36 + 4 * j.val), w (37 + 4 * j.val)⟩ else none) ∧
  p.ladder.length = b 51 ∧
  (∀ i : Fin 12, ∀ q, p.ladder[i.val]? = some q →
    b (52 + 4 * i.val) = (match q.constellation with | .s4 => 0 | .s16 => 1 | .s32 => 2 | .s64 => 3 | .s128 => 4 | .s256 => 5) ∧
    b (53 + 4 * i.val) = (match q.rate with | .r12 => 0 | .r23 => 1 | .r34 => 2 | .r56 => 3 | .r78 => 4) ∧
    b (54 + 4 * i.val) = q.blocks ∧ b (55 + 4 * i.val) = q.required)

end Sys2Proof.Machine

/-- An image that is taken in spells the settings byte by byte (R198), with its check behind them (R199), passes the checks of R199 and
governs: its roles are provisioned and acting, each carrier that is not OFF
wakes with its level at the start level within the cap and acts in the role that R22 gives, each OFF carrier is powered down, and
DEFAULTS is not raised. The start allowance holds the carriers that are not OFF, in increasing number, while active limit and budget
admit them (R25). That the wake of the carriers raises no CARRIER is the model's reading (log 35) of R25 and R202 against the CARRIER
row of R192 and R38. -/
def Obligations.ImageComesIntoForce : Prop :=
  ∀ (m : List Byte) (p : Settings) (s : State), s.running = false → s.settled → s.clc = .of .reset → takeImage m = some p →
    p.ok = true ∧ p.defaults = false ∧ p.format = 1 ∧ p.SpelledBy m ∧
    (m.drop (wordAt m 1)).take 4 = bytes32 (crc32 (m.take (wordAt m 1))) ∧
    Completes (.provisioningTakenIn (some m)) s fun t =>
      let f := p.figures s.pbu.effective
      let among := fun k : CarrierId => ids.countP fun j => j ≤ k && p.roles.get j != .off
      t.running = true ∧ t.settings = p ∧ t.links = s.links ∧ t.htu.hsn = 0 ∧ t.htu.frame = 0 ∧
      (∀ k, p.roles.get k = .off → (t.clc.get k).link = .down ∧ t.cpm.acting.get k = none ∧ .modem k .powerDown ∈ t.out) ∧
      (∀ k, p.roles.get k ≠ .off → (t.clc.get k).link = .waking ∧ .modem k .powerUp ∈ t.out ∧
        (p.roles.get k = .traffic → t.cpm.acting.get k = some .traffic) ∧ (p.roles.get k = .standby → t.cpm.acting.get k = some .standby) ∧
        (∀ m, p.roles.get k = .mirror m → t.cpm.acting.get k = some .mirror) ∧
        t.pbu.level.get k = min p.startLevel f.cap ∧
        (t.clc.get k).allowance = decide (among k ≤ f.limit ∧ among k * (min p.startLevel f.cap + 1) ≤ f.budget)) ∧
      t = { s with running := true, settings := p, htu := t.htu, clc := t.clc, cpm := { s.cpm with acting := t.cpm.acting },
                   pbu := { s.pbu with level := t.pbu.level }, out := t.out }

namespace Sys2Proof.Machine

/-- A controller at a boundary that leaves its link state (R26, R27, R30, R32, R36): the count of the state advances, and a LOCKED
carrier is joined. -/
def Clc.closed (c : Clc) : Clc :=
  match c.link with
  | .down => if c.faultLatch then { c with retryCount := min (c.retryCount + 1) 256 } else c
  | .waking => { c with wakingCount := min (c.wakingCount + 1) 256 }
  | .parked => c
  | .acquire => { c with acquireCount := min (c.acquireCount + 1) 64 }
  | .locked => { c with joined := true }
  | .holdoff => { c with holdoffCount := min (c.holdoffCount + 1) 32 }

/-- The expiry that a boundary brings a controller to (R26, R32, R36). -/
def Clc.closes (c : Clc) (k : CarrierId) : Option Expiry :=
  match c.link with
  | .down => if c.faultLatch = true ∧ 255 ≤ c.retryCount then some (.retry k) else none
  | .waking => if 255 ≤ c.wakingCount then some (.waking k) else none
  | .parked => none
  | .acquire => if 63 ≤ c.acquireCount then some (.acquire k) else none
  | .locked => none
  | .holdoff => if 31 ≤ c.holdoffCount then some (.holdoff k) else none

/-- The table of R48 for a closing superframe, none with fewer than 16 samples. -/
def Ftr.chosen (f : Ftr) : Option Combiner :=
  let n := f.acc.number
  let up := f.acc.upper / n
  let low := f.acc.lower / n
  if n < 16 then none
  else if 12 ≤ f.acc.selectivity / n then
    some (if low < up then .upper else if up < low then .lower else if f.mode = .lower then .lower else .upper)
  else if up ≤ low + 12 ∧ low ≤ up + 12 then some .joint
  else some (if low < up then .upper else .lower)

/-- The close of the superframe at the Fade Tracker of carrier `k` (R45, R47–R49): the last mean is the rounded-down mean of its samples,
or none without any; the dwell count advances, up to 4; where it stands at 4 and R48 chooses another mode, that mode is taken with the
dwell count at 0, and commanded if the modem is powered (R20). -/
def State.FadeCloses (s t : State) (k : CarrierId) : Prop :=
  let f := s.ftr.get k
  (t.ftr.get k).lastMean = (if f.acc.number = 0 then none else some (f.acc.output / f.acc.number)) ∧
  (∀ m, f.chosen = some m → m ≠ f.mode → 3 ≤ f.dwell →
    (t.ftr.get k).mode = m ∧ (t.ftr.get k).dwell = 0 ∧ (s.link k ≠ .down → .modem k (.setCombiner m) ∈ t.out)) ∧
  ((∀ m, f.chosen = some m → m = f.mode ∨ f.dwell < 3) →
    (t.ftr.get k).mode = f.mode ∧ (t.ftr.get k).dwell = min (f.dwell + 1) 4)

end Sys2Proof.Machine

/-- A boundary event begins frame 0 of the next superframe; afterwards every LOCKED carrier is joined, every accumulator is empty,
and the superframe has closed at the Fade Tracker of every carrier that stays LOCKED. Where every expiry is left to a step of its own
(log 2) and no entry applies, it has closed at every Fade Tracker, whatever the carrier's link state, with the branch dwell due where
the count has come to 4; each controller's count advances, and so does the recovery count of a hop that is down. -/
def Obligations.BoundaryBeginsSuperframe : Prop :=
  ∀ (order : List BoundaryPart) (own : Bool) (s : State), s.running = true → s.htu.anchor = s.lowestLocked →
    Completes (.superframeBoundary order own) s fun t =>
      t.htu.hsn = s.htu.hsn + 1 ∧ t.htu.frame = 0 ∧ t.htu.anchor = t.lowestLocked ∧
      (∀ k, t.isLocked k = true → (t.clc.get k).joined = true) ∧
      (∀ k, (t.ftr.get k).acc = ⟨0, 0, 0, 0, 0⟩) ∧
      (∀ k, s.isLocked k = true → t.isLocked k = true → s.FadeCloses t k) ∧
      (own = true → s.beforeQuietBoundary →
        (∀ k, s.FadeCloses t k ∧ ((s.ftr.get k).dwell < 4 → (t.ftr.get k).dwell = 4 → Expiry.branchDwell k ∈ t.due)) ∧
        t.clc = s.clc.map Clc.closed ∧ (∀ k x, (s.clc.get k).closes k = some x → x ∈ t.due) ∧
        t.htu.recovery = (if s.htu.anchor = none then min (s.htu.recovery + 1) 16 else s.htu.recovery) ∧
        (s.htu.anchor = none → 15 ≤ s.htu.recovery → Expiry.recovery ∈ t.due)) ∧
      t.settings = s.settings ∧ t.pending = s.pending ∧ t.running = true ∧ t.freeCount = s.freeCount

namespace Sys2Proof.Machine

/-- The effect of PARK `k` (R35, R97): a carrier in ACQUIRE, LOCKED or HOLDOFF is PARKED, muted unless it was; its unit is not
draining. -/
def State.ParkApplied (s t : State) (k : CarrierId) : Prop :=
  (s.link k = .acquire ∨ s.link k = .locked ∨ s.link k = .holdoff →
    t.clc.get k = { s.clc.get k with link := .parked, joined := false, wakeMark := false, failedWakes := 0, acquireCount := 0,
                                     holdoffCount := 0 } ∧
    (t.scu.get k).queue = [] ∧ (s.link k ≠ .holdoff → .modem k .mute ∈ t.out)) ∧
  (s.link k = .down ∨ s.link k = .waking ∨ s.link k = .parked → t.link k = s.link k) ∧
  ∀ u, s.unitOf k = some u → t.plc.draining.get u = false

/-- The effect of WAKE `k` (R34, R97): a PARKED carrier makes an acquisition start with its wake mark set, unless it is refused. -/
def State.WakeApplied (s t : State) (k : CarrierId) : Prop :=
  (s.link k = .parked → ∃ n, s.startRule n ∧
    (∀ l, n = some l → t.clc.get k = (s.clc.get k).acquiring true ∧ t.pbu.level.get k = l ∧
      .modem k (.setLevel l) ∈ t.out ∧ .modem k .unmute ∈ t.out) ∧
    (n = none → t.link k = .parked)) ∧
  (s.link k ≠ .parked → t.link k = s.link k)

/-- The carriers of the substitution list, in its order. -/
def Cpm.substitutes (c : Cpm) : List (CarrierId × CarrierId) := c.subs.map fun r => (r.s, r.t)

/-- The effect of PROMOTE `c` for `d` (R135): roles and record change where the acting roles pass the test, and a unit of `d` that
was in service holds no block (R154). -/
def State.PromoteApplied (s t : State) (c d : CarrierId) : Prop :=
  (s.cpm.acting.get c = some .standby ∧ s.cpm.acting.get d = some .traffic →
    t.cpm.acting = (s.cpm.acting.set c (some .traffic)).set d (some .displaced) ∧
    t.cpm.substitutes = s.cpm.substitutes ++ [(c, d)] ∧ (∀ r, t.cpm.subs.getLast? = some r → r.dwell ≤ 1) ∧
    (s.unitOf d = some d → s.inService d = true → (t.sched.staging.get d).held = 0)) ∧
  (¬(s.cpm.acting.get c = some .standby ∧ s.cpm.acting.get d = some .traffic) →
    t.cpm.acting = s.cpm.acting ∧ t.cpm.substitutes = s.cpm.substitutes)

/-- The effect of REVERT `c` to `d` (R137): roles and record return where record and acting roles pass the test; the unit of `c` is
not draining. -/
def State.RevertApplied (s t : State) (c d : CarrierId) : Prop :=
  let holds := (c, d) ∈ s.cpm.substitutes ∧ s.cpm.acting.get c = some .traffic ∧ s.cpm.acting.get d = some .displaced
  (holds → t.cpm.acting = (s.cpm.acting.set c (some .standby)).set d (some .traffic) ∧
    t.cpm.substitutes = s.cpm.substitutes.filter (· ≠ (c, d))) ∧
  (¬holds → t.cpm.acting = s.cpm.acting ∧ t.cpm.substitutes = s.cpm.substitutes) ∧
  ∀ u, s.unitOf c = some u → t.plc.draining.get u = false

end Sys2Proof.Machine

/-- After a boundary event the plan holds no AGREED entry whose target is the superframe that has begun, RX_PROFILE entries apart
(R94, R95). Where one entry alone is due and every expiry is left to a step of its own (log 2), the entry has the effect of its kind
(R97), and PLAN is raised. That a carrier which a WAKE starts within the boundary has its acquire count at 0 behind it, in whatever order
the blocks take the event, is the model's reading (log 37). -/
def Obligations.BoundaryAppliesDueEntries : Prop :=
  (∀ (order : List BoundaryPart) (own : Bool) (s : State), s.running = true → s.htu.anchor = s.lowestLocked →
    Completes (.superframeBoundary order own) s fun t =>
      ∀ e ∈ t.plc.plan, e.isRx = false → e.state = .agreed → e.target ≠ some t.htu.hsn) ∧
  (∀ (order : List BoundaryPart) (e : Entry) (s : State), s.running = true → s.due = [] → s.htu.anchor = s.lowestLocked →
    e ∈ s.plc.plan → e.isRx = false → e.state = .agreed → e.target = some (s.htu.hsn + 1) →
    (∀ x ∈ s.plc.plan, x.isRx = false → x.state = .agreed → x.target = some (s.htu.hsn + 1) → x = e) →
    Completes (.superframeBoundary order true) s fun t =>
      (∀ j, (t.links.get j).raised &&& flagPlan = flagPlan) ∧
      (∀ u q, e.change = .txProfile u q → t.plc.txProfile = s.plc.txProfile.set u q) ∧
      (∀ k, e.change = .link (.park k) → s.ParkApplied t k) ∧
      (∀ k, e.change = .link (.wake k) → s.WakeApplied t k) ∧
      (∀ c d, e.change = .link (.promote c d) → s.PromoteApplied t c d) ∧
      (∀ c d, e.change = .link (.revert c d) → s.RevertApplied t c d))

/-- The debounce count at a boundary (R107): it counts while target and effective mode differ; at 16 the target mode comes into
effect with the count at 0, inside the boundary or as the expiry left to a step of its own (log 2). -/
def Obligations.BoundaryCountsDebounce : Prop :=
  ∀ (order : List BoundaryPart) (own : Bool) (s : State), s.running = true → s.due = [] →
    Completes (.superframeBoundary order own) s fun t =>
      t.pbu.target = s.pbu.target ∧
      (s.pbu.target = s.pbu.effective → t.pbu.effective = s.pbu.effective ∧ t.pbu.debounce = s.pbu.debounce) ∧
      (s.pbu.target ≠ s.pbu.effective → s.pbu.debounce < 15 →
        t.pbu.effective = s.pbu.effective ∧ t.pbu.debounce = s.pbu.debounce + 1) ∧
      (s.pbu.target ≠ s.pbu.effective → s.pbu.debounce = 15 → own = false →
        t.pbu.effective = s.pbu.target ∧ t.pbu.debounce = 0) ∧
      (s.pbu.target ≠ s.pbu.effective → s.pbu.debounce = 15 → own = true →
        t.pbu.effective = s.pbu.effective ∧ t.pbu.debounce = 16 ∧ Expiry.debounce ∈ t.due)

namespace Sys2Proof.Machine

/-- Superframe mean that carrier `k` gives its unit at the close: LOCKED, with at least 16 samples (R45, R46). -/
def State.closingMean (s : State) (k : CarrierId) : Option Nat :=
  let a := (s.ftr.get k).acc
  if s.isLocked k = true ∧ 16 ≤ a.number then some (a.output / a.number) else none

/-- The unit's superframe mean at the close with its governing member: the higher, the primary's where equal (R46, R61). -/
def State.closingUnit (s : State) (u : UnitId) : Option (CarrierId × Nat) :=
  match s.closingMean u, (s.mirrorOf u).bind fun k => (s.closingMean k).map fun n => (k, n) with
  | some m, some (k, n) => if m < n then some (k, n) else some (u, m)
  | some m, none => some (u, m)
  | none, x => x

/-- The unit's context after steps 1 to 3 of R62 at a boundary with superframe mean `x` (R63, R69). -/
def State.stepped (s : State) (a : Ade) (x : Option (CarrierId × Nat)) : Ade :=
  let clears := x.any fun y => a.rxProfile < s.settings.top &&
    decide (s.settings.required (a.rxProfile + 1) + s.settings.upMargin ≤ y.2)
  { a with dropHold := a.dropHold - 1, ask := a.ask.map fun k => { k with wait := min (k.wait + 1) 2 }, mean := x,
           upDwell := if clears then min (a.upDwell + 1) s.settings.upDwell else 0 }

/-- A power ask of `n` steps on carrier `c` is the unit's decision, its context otherwise `d` (R67). -/
def State.DecidesAsk (s t : State) (u : UnitId) (d : Ade) (c : CarrierId) (n : Int) : Prop :=
  ∃ g, (t.ade.get u).ask = some g ∧ g.carrier = c ∧ g.delta = n ∧ g.wait = 0 ∧
    t.ade.get u = { d with ask := some g, asked := some c, state := .askingPower } ∧
    t.Awaits (s.serviceCarrier u) (.powerAsk g.tag c n)

/-- The proposal of profile `q` is the unit's decision, its context otherwise `d` (R71, R81). -/
def State.DecidesProfile (s t : State) (u : UnitId) (d : Ade) (q : Nat) : Prop :=
  t.ade.get u = { d with upDwell := 0, state := .proposing } ∧
  ∃ e ∈ t.plc.plan, e.change = .rxProfile u q ∧ e.target = none ∧ e.origin = .local ∧ e.state = .proposed ∧ e.age ≤ 1 ∧
    t.Awaits (s.serviceCarrier u) (.proposeRx e.tag u q) ∧ ∀ x ∈ t.plc.plan, x.isRxOf u = true → x = e

/-- The decision of a unit in STEADY without an ask (step 4 of R62, R64–R66), with context `d`, governing member `c` and mean `m`: in
deficit power, else a downshift, else nothing; in surplus, by the peer's mode, an upshift, a step of power down, or nothing. -/
def State.Decides (s t : State) (u : UnitId) (d : Ade) (c : CarrierId) (m : Nat) : Prop :=
  let p := s.settings
  let q := d.rxProfile
  let stays := t.ade.get u = d
  let room := ∃ l, s.peer.level.get c = some l ∧ (∃ n, s.peer.cap.get c = some n ∧ l < n) ∧ d.atCap = none
  let gives := p.required q + p.targetMargin + 8 ≤ m ∧ ∃ l, s.peer.level.get c = some l ∧ 0 < l
  let down := (gives → s.DecidesAsk t u d c (-1)) ∧ (¬gives → stays)
  (m < p.required q + p.holdMargin →
    (room → s.DecidesAsk t u d c ((min ((p.required q + p.targetMargin - m + 3) / 4) 8 : Nat) : Int)) ∧
    (¬room → 0 < q → ∃ r ≤ p.top, s.DecidesProfile t u d r ∧ (r = 0 ∨ p.required r + p.targetMargin ≤ m) ∧
      ∀ n ≤ p.top, p.required n + p.targetMargin ≤ m → n ≤ r) ∧
    (¬room → q = 0 → stays)) ∧
  (p.required q + p.holdMargin ≤ m →
    (s.peer.mode = none → stays) ∧
    (s.peer.mode = some .economy ∨ s.peer.mode = some .survival → down) ∧
    (s.peer.mode = some .full → p.top ≤ q → down) ∧
    (s.peer.mode = some .full → q < p.top →
      (d.upDwell < p.upDwell ∨ d.dropHold ≠ 0 ∨ s.peer.digest ≠ some p.digest ∨ s.linkCounts u = true → stays) ∧
      (p.upDwell ≤ d.upDwell → d.dropHold = 0 → s.peer.digest = some p.digest → t.linkCounts u = false →
        s.DecidesProfile t u d (q + 1))))

end Sys2Proof.Machine

/-- The boundary decision of a unit (R46, R61–R67, R71, R74) where every expiry is left to a step of its own (log 2) and no entry applies.
Without a LOCKED member the drop hold count alone falls. With one, the counts move; a drop hold that has come to its end and an up-dwell
count that has come to the up dwell fall due (R63, R74). An ask that has waited two boundaries falls due, and a unit in STEADY without an
ask decides by its mean: in deficit for power, else a downshift, else nothing; in surplus, by the peer's mode, for an upshift, a step of
power down, or nothing. -/
def Obligations.BoundaryDecidesTheProfile : Prop :=
  ∀ (order : List BoundaryPart) (u : UnitId) (s : State), s.beforeQuietBoundary → Completes (.superframeBoundary order true) s fun t =>
    let a := s.ade.get u
    let x := s.closingUnit u
    let d := s.stepped a x
    (a.dropHold = 1 → Expiry.dropHold u ∈ t.due) ∧
    (s.unitLocked u = false → t.ade.get u = { a with dropHold := a.dropHold - 1, mean := none }) ∧
    (s.unitLocked u = true →
      (a.upDwell < d.upDwell → d.upDwell = s.settings.upDwell → Expiry.upDwell u ∈ t.due) ∧
      (a.state ≠ .steady ∨ x = none → t.ade.get u = d) ∧
      (∀ k, a.ask = some k → 1 ≤ k.wait → t.ade.get u = d ∧ Expiry.ask u ∈ t.due) ∧
      (∀ y, x = some y → a.state = .steady → a.ask = none → s.Decides t u d y.1 y.2))

/-- The Carrier Pool Manager at a boundary (R121, R126–R132, R134, R136) where every expiry is left to a step of its own (log 2) and
no entry applies: penalties, back-offs, closed counts, backlog run and revert dwells, with the expiries that they bring. With no LINK
entry in the plan: while settling, the first candidate is parked; otherwise a LEAD end with promotion on asks for the promotion or the
reversion that is called for; at an end that promotes nothing, a wake is asked for where a condition of R131 holds, and none where none
does: then the highest-numbered unit that R130 finds falls due for its idle park where its run has just come to the idle-park run, and
is asked to park where it stands beyond. That no mark of a fresh penalty stands behind a boundary is the model's own (log 25). -/
def Obligations.BoundaryServesThePool : Prop :=
  ∀ (order : List BoundaryPart) (s : State), s.beforeQuietBoundary → Completes (.superframeBoundary order true) s fun t =>
    let p := s.settings
    let c := s.cpm
    let eligible := fun z : Lane => t.eligibleUnits z.governing.eligible
    let parked := fun k => s.link k = .parked ∧ c.penalty.get k ≤ 1
    let stranded := fun k => parked k ∧ ∃ i ∈ allLanes, (t.sched.lane i.1 i.2).queue ≠ [] ∧
      (∀ u ∈ eligible (t.sched.lane i.1 i.2), s.inService u = false) ∧ ∃ u ∈ eligible (t.sched.lane i.1 i.2), k ∈ s.members u
    let wanted := (∃ k, stranded k) ∨ s.awakeTrafficUnits none < s.effHold ∨ t.cpm.backlogRun = 4
    let wakes := fun k => s.backoffWithin 1 k ∧ ((∃ j, stranded j) → stranded k) ∧
      ((¬∃ j, stranded j) → parked k ∧ (c.acting.get k = some .traffic ∨ c.acting.get k = some .standby))
    let fails := fun k => c.acting.get k = some .traffic ∧ s.members k = [k] ∧ (∀ r ∈ c.subs, r.s ≠ k) ∧
      (s.link k = .acquire ∨ s.link k = .holdoff ∨ s.link k = .waking ∨ s.link k = .down) ∧ s.backoffWithin 1 k
    let ready := s.standsBy 1
    let run := fun u => t.cpm.idleRun.get u
    let idles := fun u => s.inService u = true ∧ p.idlePark ≤ run u ∧ s.backoffWithin 1 u ∧
      max s.effHold 1 ≤ s.awakeTrafficUnits (some (s.idleCarrier u))
    t.cpm = { c with
      penalty := c.penalty.map (· - 1), penaltyFresh := .of false, backoff := c.backoff.map (· - 1)
      idleRun := .build fun u => if 16 * c.traffic.get u < c.offered.get u then min (c.idleRun.get u + 1) 65535 else 0
      traffic := .of 0, offered := .of 0
      backlog := t.cpm.backlog, backlogRun := if p.wakeBacklog < t.cpm.backlog then min (c.backlogRun + 1) 4 else 0
      subs := c.subs.map fun r => if s.isLocked r.t then { r with dwell := min (r.dwell + 1) p.revertDwell } else r } ∧
    (∀ k, c.penalty.get k = 1 → Expiry.penalty k ∈ t.due) ∧ (∀ u, c.backoff.get u = 1 → Expiry.backoff u ∈ t.due) ∧
    (∀ r ∈ c.subs, s.isLocked r.t = true → r.dwell + 1 = p.revertDwell → (∀ q ∈ c.subs, q.s = r.s → q = r) →
      Expiry.revertDwell r.s ∈ t.due) ∧
    (s.linkOpen → (∀ k, s.isLocked k = true → (s.clc.get k).joined = true) →
      (s.pbu.settling = true → s.effLimit < s.awakeCount → ∀ k, s.FirstPark 1 k → t.Asked (.park k)) ∧
      (s.pbu.settling = false → p.endRole = .lead → p.promotion = true → c.subs.length < 2 → ∀ d, fails d → (∀ j < d, ¬fails j) →
        ∀ k, ready k → (∀ j < k, ¬ready j) → t.Asked (.promote k d)) ∧
      (s.pbu.settling = false → p.endRole = .lead → p.promotion = true → (∀ d, ¬fails d) → ∀ r, c.subs = [r] →
        s.isLocked r.s = false → s.isLocked r.t = true → s.backoffWithin 1 r.s → s.backoffWithin 1 r.t →
          t.Asked (.revert r.s r.t)) ∧
      (s.pbu.settling = false → p.endRole = .follow ∨ p.promotion = false →
        (wanted → s.awakeCount < s.effLimit → s.budgetInUse + 5 ≤ s.figures.budget → ∀ k, wakes k → (∀ j < k, ¬wakes j) →
          t.Asked (.wake k)) ∧
        (¬wanted → (∀ e ∈ t.plc.plan, e.isWake none = false) ∧ ∀ u, idles u → (∀ v, u < v → ¬idles v) →
          (run u = p.idlePark → Expiry.idlePark u ∈ t.due) ∧
          (p.idlePark < run u → (∃ j, j ≠ s.idleCarrier u ∧ s.isLocked j = true) → t.Asked (.park (s.idleCarrier u))))))

/-- Plan ages, credits and lanes at a boundary (R92, R131, R142, R167, R168) where every expiry is left to a step of its own (log 2)
and no entry applies. Every entry ages, unless a new proposal of its unit has taken its place; one that still stands falls due as
unanswered at age 4 (R92), and an AGREED RX_PROFILE entry behind its target (R94). Credits are renewed from the C that
counts every LOCKED carrier as joined, and stand there where the scheduler is last and the tenant has nothing to stage. A lane with
nothing to stage is unbound if its empty mark was set, and marked if it holds no block. The stall timer of a queue from which nothing
was staged advances, and the backlog handed on counts the units not staged. -/
def Obligations.BoundaryMovesTheLanes : Prop :=
  ∀ (order : List BoundaryPart) (s : State), s.beforeQuietBoundary → s.accountLaw → Completes (.superframeBoundary order true) s fun t =>
    let c := (Four.build fun u => if s.unitLocked u = true ∧ s.cpm.acting.get u = some .traffic ∧ s.plc.draining.get u = false then
      s.settings.blocks (s.plc.txProfile.get u) else 0).sum
    let spent := fun j l => ∀ p ∈ (s.sched.lane j l).queue, p.staged = p.data.length
    (∀ e ∈ s.plc.plan,
      ({ e with age := min (e.age + 1) 15 } ∈ t.plc.plan ∨
        ∃ u, e.isRxOf u = true ∧ (s.ade.get u).state = .steady ∧ (t.ade.get u).state = .proposing) ∧
      (e.isRx = false ∨ { e with age := min (e.age + 1) 15 } ∈ t.plc.plan →
        (e.origin = .local → e.state = .proposed → 3 ≤ e.age → Expiry.proposal e.tag ∈ t.due) ∧
        (∀ u, e.isRxOf u = true → e.state = .agreed → e.target = some s.htu.hsn → Expiry.rxPast u ∈ t.due))) ∧
    t.sched.renewal = c ∧
    (∀ j, t.sched.credit.get j ≤ c * s.settings.committed j ∧
      ((boundaryOrder order).getLast? = some .schedule → (∀ l, spent j l) → t.sched.credit.get j = c * s.settings.committed j)) ∧
    (∀ j l,
      let z := s.sched.lane j l
      let y := t.sched.lane j l
      (spent j l →
        (z.bound = none → y.bound = none) ∧
        (∀ b, z.bound = some b → z.emptyMark = true → y.bound = none ∧ y.emptyMark = false) ∧
        (∀ b, z.bound = some b → z.emptyMark = false →
          y.bound = some b ∧ y.emptyMark = !(s.sched.staging.get b.unit).holdsLane j l)) ∧
      (z.queue ≠ [] → y.queue = z.queue →
        y.timer = min (z.timer + 1) 255 ∧ (y.governing.limit ≤ y.timer → Expiry.stall j l ∈ t.due)) ∧
      (y.queue ≠ z.queue → y.timer ≤ 1)) ∧
    ((∀ j l, (t.sched.lane j l).queue = (s.sched.lane j l).queue) → (∀ j l, Expiry.stall j l ∉ t.due) →
      t.cpm.backlog = (allLanes.map fun i =>
        let z := t.sched.lane i.1 i.2
        if z.governing.cls = .bulk then 0 else (z.queue.map fun p => (p.data.length - p.staged + 63) / 64).sum).sum)

/-! ## Timers of the link state machine -/

/-- A fault: MODEM_FAULT in any state but DOWN, or the end of the waking count, powers the carrier down with the fault latch set. A
carrier that was LOCKED is handed on like a loss of lock; MODEM_FAULT in DOWN restarts the retry count under the latch, and has no
effect without it. At the end of the retry count the modem is powered up and the carrier wakes, the latch still set. That a boundary
leaves an expiry to a step of its own is the model's choice (log 2). -/
def Obligations.FaultPowersDown : Prop :=
  ∀ (k : CarrierId) (s : State), s.steady →
    (s.link k ≠ .down → s.link k ≠ .locked → Completes (.modemFault k) s fun t =>
      s.LinkBecomes t k (s.clc.get k).faulted ∧ s.Silenced t k ∧ t.cpm = s.cpm ∧ t.due = s.due ∧ t.out = [.modem k .powerDown]) ∧
    (Expiry.waking k ∈ s.due → s.link k = .waking → 256 ≤ (s.clc.get k).wakingCount → Completes (.wakingTimeout k) s fun t =>
      s.LinkBecomes t k (s.clc.get k).faulted ∧ s.Silenced t k ∧ t.cpm = s.cpm ∧ t.due = s.due.erase (.waking k) ∧
      t.out = [.modem k .powerDown]) ∧
    (s.link k = .locked → s.role k ≠ .off → s.htu.anchor = s.lowestLocked → Completes (.modemFault k) s fun t =>
      t.clc = s.clc.set k (s.clc.get k).faulted ∧ s.LostLocked t k ∧ t.ftr = s.ftr ∧ (t.scu.get k).queue = [] ∧
      t.out = [.modem k .powerDown] ∧ ∀ j, (t.links.get j).raised &&& flagCarrier = flagCarrier) ∧
    (s.link k = .down → Completes (.modemFault k) s fun t =>
      t = { s with out := [], clc := if (s.clc.get k).faultLatch then s.clc.modify k (fun c => { c with retryCount := 0 }) else s.clc }) ∧
    (Expiry.retry k ∈ s.due → s.link k = .down → (s.clc.get k).faultLatch = true → 256 ≤ (s.clc.get k).retryCount →
      Completes (.faultRetryExpiry k) s fun t =>
        s.LinkBecomes t k { s.clc.get k with link := .waking, wakingCount := 0 } ∧ s.Silenced t k ∧ t.cpm = s.cpm ∧
        t.due = s.due.erase (.retry k) ∧ t.out = [.modem k .powerUp])

/-- An acquisition that has failed (R32, R33): HOLDOFF without a wake mark; with one, HOLDOFF up to the second failed wake, and at
the third PARKED with the wake-failure count and the penalty of 1024 boundaries (R121). The end of HOLDOFF is an acquisition start;
refused, the carrier stays and the holdoff count restarts (R32, R110). Hop recovery starts the lowest-numbered PARKED carrier without
a wake penalty, while no carrier is in ACQUIRE and the awake count is below the local active limit, and the count returns to 0; with
no such carrier or a refused start nothing changes (R37). That a boundary leaves an expiry to a step of its own (log 2), and that the
penalty is marked as fresh (log 25), is the model's choice. -/
def Obligations.AcquisitionExpiriesAct : Prop :=
  (∀ (k : CarrierId) (s : State), s.steady → Expiry.acquire k ∈ s.due → s.link k = .acquire → 64 ≤ (s.clc.get k).acquireCount →
    Completes (.acquireTimeout k) s fun t =>
      let c := s.clc.get k
      s.Silenced t k ∧ t.due = s.due.erase (.acquire k) ∧ t.out = [.modem k .mute] ∧
      (c.wakeMark = false → s.LinkBecomes t k { c with link := .holdoff, holdoffCount := 0 } ∧ t.cpm = s.cpm) ∧
      (c.wakeMark = true → c.failedWakes < 2 →
        s.LinkBecomes t k { c with link := .holdoff, holdoffCount := 0, failedWakes := c.failedWakes + 1 } ∧ t.cpm = s.cpm) ∧
      (c.wakeMark = true → 2 ≤ c.failedWakes →
        s.LinkBecomes t k { c with link := .parked, wakeMark := false, failedWakes := 0,
                                   wakeFailures := satSucc32 c.wakeFailures } ∧
        t.cpm = { s.cpm with penalty := s.cpm.penalty.set k 1024, penaltyFresh := s.cpm.penaltyFresh.set k true })) ∧
  (∀ (k : CarrierId) (s : State), s.steady → Expiry.holdoff k ∈ s.due → s.link k = .holdoff → 32 ≤ (s.clc.get k).holdoffCount →
    Completes (.holdoffEnd k) s fun t =>
      ∃ n, s.startRule n ∧ t.due = s.due.erase (.holdoff k) ∧ t.htu = s.htu ∧
        (∀ l, n = some l → s.StartedAt t k l ((s.clc.get k).acquiring false) []) ∧
        (n = none → t = { s with clc := s.clc.modify k fun c => { c with holdoffCount := 0 }, due := s.due.erase (.holdoff k), out := [] })) ∧
  (∀ s : State, s.steady → Expiry.recovery ∈ s.due → s.htu.anchor = none → s.htu.recovery = 16 →
    (∀ k, s.link k ≠ .acquire) → s.awakeCount < s.localLimit →
    Completes .hopRecoveryAttempt s fun t =>
      t.due = s.due.erase .recovery ∧
      ∃ n, s.startRule n ∧
        (∀ k, s.link k = .parked → s.cpm.penalty.get k = 0 →
          (∀ j, j < k → ¬(s.link j = .parked ∧ s.cpm.penalty.get j = 0)) → ∀ l, n = some l →
            s.StartedAt t k l ((s.clc.get k).acquiring false) [] ∧ t.htu = { s.htu with recovery := 0 }) ∧
        ((n = none ∨ ∀ k, ¬(s.link k = .parked ∧ s.cpm.penalty.get k = 0)) →
          t = { s with due := s.due.erase .recovery, out := [] }))

/-- The target mode comes into effect and POWER is raised (R107). A rise leaves the levels (R119). A drop sets levels above the cap
to it, and then takes single steps from the highest level in ACQUIRE or LOCKED, the highest-numbered where equal, until the budget in
use fits and no longer (R116); each change is sent, and reported in an unsolicited POWER_SET (R117); the first candidate of R129 is
asked to park where too many carriers are awake, and settling stands exactly then (R118). That a boundary leaves an expiry to a step
of its own is the model's choice (log 2). -/
def Obligations.ModeChangeComesIntoEffect : Prop :=
  ∀ s : State, s.steady → Expiry.debounce ∈ s.due → s.pbu.target ≠ s.pbu.effective → s.pbu.debounce = 16 →
    s.settings.ok = true →
    Completes .modeDebounceExpiry s fun t =>
      let f := s.settings.figures s.pbu.target
      let capped := fun k => min (s.pbu.level.get k) f.cap
      let level := fun k => t.pbu.level.get k
      t = { s with pbu := { s.pbu with effective := s.pbu.target, debounce := 0, level := t.pbu.level, settling := t.pbu.settling },
                   scu := t.scu, plc := t.plc, links := t.links, out := t.out, due := s.due.erase .debounce } ∧
      (∀ j, (t.links.get j).raised &&& flagPower = flagPower) ∧
      (modeRank s.pbu.target < modeRank s.pbu.effective →
        t.pbu.level = s.pbu.level ∧ t.scu = s.scu ∧ t.plc = s.plc ∧ t.out = [] ∧ s.SettlesTo t) ∧
      (modeRank s.pbu.effective < modeRank s.pbu.target →
        (∀ k, s.costs k = false → level k = capped k) ∧ (∀ k, level k ≤ capped k) ∧ t.budgetInUse ≤ f.budget ∧
        (∀ j, level j < capped j → t.budgetInUse = f.budget ∧
          ∀ k, s.costs k = true → level k ≤ level j + 1 ∧ (j < k → level k ≤ level j)) ∧
        (∀ k, level k ≠ s.pbu.level.get k → s.link k ≠ .down → .modem k (.setLevel (level k)) ∈ t.out) ∧
        (∀ k u, level k ≠ s.pbu.level.get k → s.costs k = true → s.unitOf k = some u →
          t.Awaits (s.serviceCarrier u) (.powerSet none k (level k) .mode)) ∧
        (s.linkOpen → t.effLimit < t.awakeCount → ∀ k, s.FirstPark 0 k → t.Asked (.park k)) ∧
        t.pbu.settling = decide (t.effLimit < t.awakeCount))

/-- Wake penalty, request back-off, drop hold, up dwell and branch dwell: the expiry itself changes nothing but the list of expiries
left. This is the model's reading (log 31): the counts that reach their end let later decisions act (R49, R63, R74, R121, R128), and
the boundary that brings them there has set them. That it leaves an expiry to a step of its own is the model's choice (log 2). -/
def Obligations.ObservingExpiriesChangeNothing : Prop :=
  ∀ (k : Fin 4) (s : State), s.steady →
    (Completes (.wakePenaltyExpiry k) s fun t => t = { s with due := s.due.erase (.penalty k), out := [] }) ∧
    (Completes (.requestBackoffExpiry k) s fun t => t = { s with due := s.due.erase (.backoff k), out := [] }) ∧
    (Completes (.dropHoldExpiry k) s fun t => t = { s with due := s.due.erase (.dropHold k), out := [] }) ∧
    (Completes (.upDwellReached k) s fun t => t = { s with due := s.due.erase (.upDwell k), out := [] }) ∧
    (Completes (.branchDwellExpiry k) s fun t => t = { s with due := s.due.erase (.branchDwell k), out := [] })

/-! ## Expiries of adaptation, plan, pool and lanes -/

/-- An ask unanswered for two boundaries ends (R69): the peer-at-cap mark is set with the view of the asked carrier (R70), and the unit is
STEADY. With no superframe mean defined it stays so; otherwise that boundary's decision (R62, R64–R66) follows, in which the mark leaves
only a power-down ask. That a boundary leaves an expiry to a step of its own is the model's choice (log 2). -/
def Obligations.UnansweredAskMarksThePeer : Prop :=
  ∀ (u : UnitId) (c : CarrierId) (k : Ask) (s : State), s.steady → Expiry.ask u ∈ s.due → (s.ade.get u).ask = some k →
    2 ≤ k.wait → (s.ade.get u).asked = some c → s.capacityLaw →
    Completes (.powerAskExpiry u) s fun t =>
      let d := { s.ade.get u with atCap := some (s.peer.level.get c, s.peer.cap.get c), ask := none, state := .steady }
      (t.ade.get u).atCap = d.atCap ∧
      (∀ a, (t.ade.get u).ask = some a → a.delta = -1 ∧ a.wait = 0) ∧
      (s.governing u = none → t.ade.get u = d) ∧
      (∀ y, s.governing u = some y → s.Decides t u d y.1 y.2) ∧
      t = { s with ade := s.ade.set u (t.ade.get u), scu := t.scu, plc := t.plc, askTag := t.askTag,
                   due := s.due.erase (.ask u), out := [] }

/-- A PROPOSED entry of age 4 is removed as unanswered: the unit of a LINK entry is backed off for 16 boundaries, a unit in PROPOSING
returns to STEADY, and a LINK entry's removal raises PLAN (R92, R71, R103, R128). An AGREED RX_PROFILE entry whose target is the superframe
just past is removed, and the unit's receive profile is set from the latest good header (R94); a unit in PROPOSING returns to STEADY (R71).
That a boundary leaves an expiry to a step of its own is the model's choice (log 2). -/
def Obligations.PlanExpiriesRemoveEntries : Prop :=
  (∀ (tag : Tag) (e : Entry) (s : State), s.steady → Expiry.proposal tag ∈ s.due → s.proposedEntry tag = some e → 4 ≤ e.age →
    s.capacityLaw → Completes (.proposalTimeout tag) s fun t =>
      (∀ x ∈ t.plc.plan, ¬(x.tag = tag ∧ x.origin = .local ∧ x.state = .proposed)) ∧
      (∀ x ∈ s.plc.plan, ¬(x.tag = tag ∧ x.origin = .local ∧ x.state = .proposed) → x ∈ t.plc.plan) ∧
      (∀ u q, e.change = .rxProfile u q → (s.ade.get u).state = .proposing → (t.ade.get u).state = .steady) ∧
      (∀ c, e.change = .link c → ∀ u, s.unitOfChange e.change = some u → t.cpm = { s.cpm with backoff := s.cpm.backoff.set u 16 }) ∧
      (∀ u q, e.change = .rxProfile u q → t.cpm = s.cpm) ∧
      s.Raised (s.planFlagOf fun x => x.tag == tag && x.origin == .local && x.state == .proposed) t ∧
      t = { s with plc := { s.plc with plan := t.plc.plan }, ade := t.ade, cpm := { s.cpm with backoff := t.cpm.backoff },
                   links := t.links, due := s.due.erase (.proposal tag), out := [] }) ∧
  (∀ (u : UnitId) (s : State), s.steady → Expiry.rxPast u ∈ s.due → s.plc.plan.any (Entry.isPastRx u s.htu.hsn) = true →
    s.capacityLaw → Completes (.rxEntryPastTarget u) s fun t =>
      t.plc = { s.plc with plan := s.plc.plan.filter fun e => !e.isPastRx u s.htu.hsn } ∧
      (t.ade.get u).rxProfile = (s.ade.get u).lastProfile.getD (s.ade.get u).rxProfile ∧
      ((t.ade.get u).rxProfile ≠ (s.ade.get u).rxProfile → (t.ade.get u).upDwell = 0) ∧
      ((s.ade.get u).state = .proposing → (t.ade.get u).state = .steady) ∧
      ((s.ade.get u).state ≠ .proposing → (t.ade.get u).state = (s.ade.get u).state) ∧
      t = { s with plc := t.plc, ade := s.ade.set u (t.ade.get u), due := s.due.erase (.rxPast u), out := [] })

/-- The pool's expiries: the idle park of a unit that still meets R130, and the reversion of a substitution whose standby carrier is
LOCKED at its revert dwell (R136), are requested unless the Plan Controller refuses; otherwise nothing changes. That a boundary
leaves an expiry to a step of its own is the model's choice (log 2). -/
def Obligations.PoolExpiriesRequest : Prop :=
  (∀ (u : UnitId) (s : State), s.steady → Expiry.idlePark u ∈ s.due →
    let wanted := !s.wakeWanted && !s.pbu.settling && s.idleCandidate u && !s.linkRefused (.park (s.idleCarrier u))
    Completes (.idleParkRunReached u) s fun t => t.due = s.due.erase (.idlePark u) ∧
      (wanted = true → s.Requested t (.park (s.idleCarrier u))) ∧
      (wanted = false → t = { s with due := s.due.erase (.idlePark u), out := [] })) ∧
  (∀ (r : Substitution) (s : State), s.steady → Expiry.revertDwell r.s ∈ s.due → s.cpm.subs.find? (fun x => x.s == r.s) = some r →
    let wanted := s.settings.endRole == .lead && r.dwell == s.settings.revertDwell && s.isLocked r.s && s.requestable r.s &&
      s.requestable r.t && !s.linkRefused (.revert r.s r.t)
    Completes (.revertDwellReached r.s) s fun t => t.due = s.due.erase (.revertDwell r.s) ∧
      (wanted = true → s.Requested t (.revert r.s r.t)) ∧
      (wanted = false → t = { s with due := s.due.erase (.revertDwell r.s), out := [] }))

/-- A lane at its stall limit (R168–R170): a WATCHDOG lane loses a head packet that has no byte staged, a HOLD lane its head packet
while every eligible carrier is OFF or DOWN; its units are freed, STALL is counted and DISCARD raised. Otherwise only the timer is
set to 0. That a boundary leaves an expiry to a step of its own is the model's choice (log 2). -/
def Obligations.StallLimitActsOnTheHead : Prop :=
  ∀ (j : TenantId) (l : LaneIx) (p : Packet) (rest : List Packet) (s : State), s.steady → Expiry.stall j l ∈ s.due →
    (s.sched.lane j l).queue = p :: rest → (∀ q ∈ rest, q.id ≠ p.id) →
    (s.sched.lane j l).governing.limit ≤ (s.sched.lane j l).timer →
    let e := (s.sched.lane j l).governing
    let lost := match e.stall with
      | .watchdog => p.staged = 0
      | .hold => ∀ k ∈ s.eligibleCarriers e.eligible, s.role k = .off ∨ s.link k = .down
    Completes (.stallLimit j l) s fun t =>
      t = { s with sched := t.sched, links := t.links, due := s.due.erase (.stall j l), out := [] } ∧
      (t.sched.lane j l).timer = 0 ∧ t.sched.credit = s.sched.credit ∧ t.sched.capacity = s.sched.capacity ∧
      (∀ j' l', ¬(j' = j ∧ l' = l) → t.sched.lane j' l' = s.sched.lane j' l') ∧
      (¬lost → (t.sched.lane j l).queue = p :: rest ∧ t.links = s.links) ∧
      (lost → (t.sched.lane j l).queue = rest ∧
        (p.pool = .reserve → t.sched.reserveHeld.get j = s.sched.reserveHeld.get j - ceilDiv p.data.length 64) ∧
        (p.pool = .shared → t.sched.sharedHeld = s.sched.sharedHeld - ceilDiv p.data.length 64) ∧
        (t.sched.lane j l).seq = (s.sched.lane j l).seq + (if 0 < p.sent ∧ p.sent < p.data.length then 1 else 0) ∧
        (t.links.get j).counters = { (s.links.get j).counters with stall := satSucc32 (s.links.get j).counters.stall } ∧
        (t.links.get j).raised = (s.links.get j).raised ||| flagDiscard ∧ ∀ i, i ≠ j → t.links.get i = s.links.get i)

/-! ## Modem events -/

/-- MODEM_READY ends the power-up (R26): SET_COMBINER is sent; a carrier in the start allowance without a fault latch makes an
acquisition start at the level R110 gives; every other, and a refused one, is PARKED with the latch cleared. ENERGY (R34): a PARKED
carrier that a WAKE entry names makes an acquisition start with its wake mark set; one while the hop is down and the awake count
below the local active limit makes one without; a refused start, and any other ENERGY, changes nothing. -/
def Obligations.ModemEventsStartCarriers : Prop :=
  (∀ (k : CarrierId) (s : State), s.steady → s.link k = .waking →
    Completes (.modemReady k) s fun t =>
      let c := s.clc.get k
      let before : List Output := [.modem k (.setCombiner (s.ftr.get k).mode)]
      let parked := s.LinkBecomes t k { c with link := .parked, faultLatch := false, wakeMark := false, allowance := false } ∧
        s.Silenced t k ∧ t.cpm = s.cpm ∧ t.out = before
      t.due = s.due ∧
      (c.allowance = false ∨ c.faultLatch = true → parked) ∧
      (c.allowance = true → c.faultLatch = false → ∃ n, s.startRule n ∧
        (∀ l, n = some l → s.StartedAt t k l (({ c with allowance := false } : Clc).acquiring false) before ∧ t.htu = s.htu) ∧
        (n = none → parked))) ∧
  (∀ (k : CarrierId) (s : State), s.steady →
    let woken := s.plc.plan.any fun e => e.change == .link (.wake k)
    Completes (.energy k) s fun t => ∃ n, s.startRule n ∧
      (s.link k = .parked → woken = true →
        (∀ l, n = some l → s.StartedAt t k l ((s.clc.get k).acquiring true) [] ∧ t.htu = s.htu ∧ t.due = s.due) ∧
        (n = none → t = { s with out := [] })) ∧
      (s.link k = .parked → woken = false → s.htu.anchor = none → s.awakeCount < s.localLimit →
        (∀ l, n = some l → s.StartedAt t k l ((s.clc.get k).acquiring false) [] ∧ t.htu = s.htu ∧ t.due = s.due) ∧
        (n = none → t = { s with out := [] })) ∧
      (s.link k ≠ .parked ∨ (woken = false ∧ (s.htu.anchor ≠ none ∨ s.localLimit ≤ s.awakeCount)) → t = { s with out := [] }))

namespace Sys2Proof

/-- Every field of a SAMPLE is within its range (R39). -/
def SampleData.inRange (x : SampleData) : Prop :=
  x.upper ≤ 200 ∧ x.lower ≤ 200 ∧ x.output ≤ 200 ∧ x.errors ≤ 255 ∧ x.selectivity ≤ 31

/-- A branch that the mode uses is aligned (R40). -/
def SampleData.aligns (x : SampleData) (m : Combiner) : Bool :=
  match m with
  | .upper => x.upperAligned
  | .lower => x.lowerAligned
  | .joint => x.upperAligned || x.lowerAligned

/-- The mode after a sample (R50): a single branch that is not aligned gives way to the other if that is aligned, else to JOINT. -/
def SampleData.modeAfter (x : SampleData) (m : Combiner) : Combiner :=
  match m with
  | .upper => if x.upperAligned then .upper else if x.lowerAligned then .lower else .joint
  | .lower => if x.lowerAligned then .lower else if x.upperAligned then .upper else .joint
  | .joint => .joint

/-- SET_COMBINER for a switch of mode (R20, R50). -/
def SampleData.switchSent (x : SampleData) (k : CarrierId) (m : Combiner) : List Output :=
  if x.modeAfter m = m then [] else [.modem k (.setCombiner (x.modeAfter m))]

/-- The table of R88. -/
def LinkChange.delay (c : LinkChange) : Nat :=
  match c with
  | .park _ => 4
  | .wake _ => 1
  | .promote _ _ => 2
  | .revert _ _ => 4

end Sys2Proof

namespace Sys2Proof.Machine

/-- The tracker after a sample: the ring keeps the newest 64 (R41), up to 1023 samples are accumulated (R45), the error run counts
to 2 (R44), a switch of mode sets the dwell count to 0 (R47). -/
def Ftr.sampled (f : Ftr) (x : SampleData) : Ftr :=
  { f with
    aligned := x.aligns f.mode
    ring := (f.ring ++ [(⟨x.output, x.upper, x.lower, x.upperAligned, x.lowerAligned, x.errors, x.selectivity, f.mode⟩ : RingEntry)]).drop
      (f.ring.length + 1 - 64)
    acc := if f.acc.number < 1023 then ⟨f.acc.number + 1, f.acc.output + x.output, f.acc.upper + x.upper, f.acc.lower + x.lower,
      f.acc.selectivity + x.selectivity⟩ else f.acc
    errorRun := if 4 ≤ x.errors then min (f.errorRun + 1) 2 else 0
    mode := x.modeAfter f.mode
    dwell := if x.modeAfter f.mode = f.mode then f.dwell else 0 }

/-- The alignment runs after a sample (R28, R31). -/
def Clc.counted (c : Clc) (aligned : Bool) : Clc :=
  if aligned then { c with alignedRun := min (c.alignedRun + 1) 8, unalignedRun := 0 }
  else { c with alignedRun := 0, unalignedRun := min (c.unalignedRun + 1) 4 }

/-- Mean of the newest eight output qualities of the ring, none with fewer (R42). -/
def Ftr.newestMean (f : Ftr) : Option Nat :=
  if f.ring.length < 8 then none else some (((f.ring.drop (f.ring.length - 8)).map RingEntry.output).sum / 8)

/-- The short mean handed on at a sample of carrier `k` (R46): its own for a unit of one carrier; of a pair the highest of the LOCKED
members' that are defined. -/
def State.HandsShortMean (t : State) (k : CarrierId) : Prop :=
  ∀ u, t.unitOf k = some u →
    let m := (t.ade.get u).shortMean
    let of := fun j => (t.ftr.get j).newestMean
    (t.members u = [k] → m = of k) ∧
    (t.isPair u = true →
      (∀ j ∈ t.members u, t.isLocked j = true → ∀ n, of j = some n → ∃ h, m = some h ∧ n ≤ h) ∧
      (∀ h, m = some h → ∃ j ∈ t.members u, t.isLocked j = true ∧ of j = some h))

/-- The contexts of the units differ in nothing but the short mean of carrier `k`'s unit. -/
def State.adeBut (s t : State) (k : CarrierId) : Four Ade :=
  match s.unitOf k with
  | some u => s.ade.modify u fun a => { a with shortMean := (t.ade.get u).shortMean }
  | none => s.ade

/-- The controller of a carrier that has locked (R29). -/
def Clc.locked (c : Clc) : Clc :=
  { c with link := .locked, unalignedRun := 0, headerRun := 0, wakeMark := false, failedWakes := 0, joined := false }

/-- What follows when carrier `k` of unit `u` enters LOCKED (R5, R6, R7, R29, R111), with the reversion that is then
asked for (R136). -/
def State.GainedLocked (s t : State) (k : CarrierId) (u : UnitId) : Prop :=
  t.htu.anchor = t.lowestLocked ∧
  (s.htu.anchor = none → s.settings.endRole = .follow → ∀ h f, t.htu.lastHeader.get k = some (h, f) →
    t.htu.hsn = h ∧ t.htu.frame = f) ∧
  (s.htu.anchor ≠ none ∨ s.settings.endRole = .lead → t.htu.hsn = s.htu.hsn ∧ t.htu.frame = s.htu.frame) ∧
  (s.otherLocked k = false → t.plc.txProfile = s.plc.txProfile.set u 0 ∧ (t.ade.get u).rxProfile = 0 ∧ (t.ade.get u).atCap = none ∧
    (t.ade.get u).upDwell = 0) ∧
  (s.otherLocked k = true → t.plc.txProfile = s.plc.txProfile ∧ (t.ade.get u).rxProfile = (s.ade.get u).rxProfile) ∧
  (∃ n, t.pbu.level = s.pbu.level.set k n ∧ n ≤ min s.settings.startLevel s.figures.cap ∧
    (n ≠ s.pbu.level.get k → .modem k (.setLevel n) ∈ t.out) ∧
    (s.budgetInUse ≤ s.figures.budget → t.budgetInUse ≤ s.figures.budget ∧
      (n = min s.settings.startLevel s.figures.cap ∨ t.budgetInUse = s.figures.budget))) ∧
  (∀ j, (t.links.get j).raised &&& flagCarrier = flagCarrier ∧
    (s.htu.anchor = none → (t.links.get j).raised &&& flagHop = flagHop)) ∧
  s.AsksAtLock t k ∧
  t.sched = s.sched ∧ t.rxa = s.rxa ∧ t.settings = s.settings ∧ t.pending = s.pending ∧ t.due = s.due

/-- The header of a frame on carrier `k` (R10). -/
def State.headerFor (s : State) (k : CarrierId) (q : Nat) (h : Hsn) (f : FrameNo) (slot : Option Message) : FrameHeader where
  profile := q
  hsn := h
  frame := f
  aligned := (s.ftr.get k).aligned
  drop := match s.unitOf k with
    | some u => (s.ade.get u).state == .dropping
    | none => false
  mirror := s.cpm.acting.get k == some .mirror
  slot := slot

/-- The service queues without the head of carrier `k`'s (R16). -/
def State.popped (s : State) (k : CarrierId) : Four Scu := s.scu.modify k fun x => { x with queue := x.queue.tail }

/-- Is frame `f` of carrier `k` the one that carries HELLO (R16)? -/
def State.greets (s : State) (k : CarrierId) (f : FrameNo) : Prop := f = 0 ∧ s.htu.anchor = some k

/-- The HELLO of superframe `h` (R16). -/
def State.greeting (s : State) (h : Hsn) : Message :=
  .hello ⟨s.settings.endRole, h, s.pbu.effective, s.localLimit, s.pbu.level, .of s.figures.cap, s.localHold, s.settings.digest⟩

/-- The frame that a request names carries `slot` in its service slot and leaves the service queues as `scu`: HELLO in frame 0 on the
anchor, the queues untouched; else the head of the carrier's queue, which leaves it (R16). -/
def State.Fills (s : State) (k : CarrierId) (h : Hsn) (f : FrameNo) (slot : Option Message) (scu : Four Scu) : Prop :=
  (s.greets k f → slot = some (s.greeting h) ∧ scu = s.scu) ∧
  (¬s.greets k f → slot = (s.scu.get k).queue.head? ∧ scu = s.popped k)

end Sys2Proof.Machine

/-- A SAMPLE outside ACQUIRE and LOCKED, or with a field out of range, is discarded whole. In ACQUIRE short of the lock, and in LOCKED
short of its loss and without an emergency to act on, it enters the carrier's ring, accumulators and runs, and its unit's short mean
is handed on; nothing else changes (R39–R46, R50). -/
def Obligations.SampleIsRecordedOrDiscarded : Prop :=
  ∀ (k : CarrierId) (x : SampleData) (s : State), s.steady →
    let f := s.ftr.get k
    let c := s.clc.get k
    let aligned := x.aligns f.mode
    let after := { s with ftr := s.ftr.set k (f.sampled x) }
    let recorded := Completes (.sample k x) s fun t =>
      t = { s with ftr := s.ftr.set k (f.sampled x), clc := s.clc.set k (c.counted aligned), ade := s.adeBut t k,
                   out := x.switchSent k f.mode } ∧ t.HandsShortMean k
    (s.link k ≠ .acquire → s.link k ≠ .locked → Completes (.sample k x) s fun t => t = { s with out := [] }) ∧
    (¬x.inRange → Completes (.sample k x) s fun t => t = { s with out := [] }) ∧
    (s.link k = .acquire → x.inRange → ¬(aligned = true ∧ 7 ≤ c.alignedRun ∧ c.headerAligned = true) → recorded) ∧
    (s.link k = .locked → x.inRange → aligned = true ∨ c.unalignedRun < 3 → c.headerRun < 4 →
      (∀ u, s.unitOf k = some u → after.emergencyHolds u = true → (s.ade.get u).state = .dropping) → recorded)

/-- The eighth aligned sample with the latest header ALIGNED locks the carrier (R28, R29). -/
def Obligations.EighthAlignedSampleLocks : Prop :=
  ∀ (k : CarrierId) (u : UnitId) (x : SampleData) (s : State), s.steady → s.link k = .acquire → s.unitOf k = some u → x.inRange →
    x.aligns (s.ftr.get k).mode = true → 7 ≤ (s.clc.get k).alignedRun → (s.clc.get k).headerAligned = true →
    s.htu.anchor = s.lowestLocked →
    Completes (.sample k x) s fun t =>
      t.clc = s.clc.set k ((s.clc.get k).counted true).locked ∧ s.GainedLocked t k u ∧
      t.ftr = s.ftr.set k ((s.ftr.get k).sampled x) ∧ t.htu.lastHeader = s.htu.lastHeader

/-- The fourth unaligned sample in a row, or the fourth header without ALIGNED in a row, a bad one, one above the ladder and a good one
alike, loses the lock (R31, R11): the carrier keeps its level, its lock-loss count increases, and the entry to ACQUIRE clears its ring
and runs. -/
def Obligations.FourthUnalignedLosesLock : Prop :=
  ∀ (k : CarrierId) (u : UnitId) (x : SampleData) (h : Header) (bs : List RxBlock) (s : State), s.steady → s.link k = .locked →
    s.unitOf k = some u → s.htu.anchor = s.lowestLocked →
    let lost := fun t : State => t.clc = s.clc.set k (s.clc.get k).unlocked ∧ s.LostLocked t k ∧ (t.ftr.get k).ring = [] ∧
      (t.ftr.get k).acc = ⟨0, 0, 0, 0, 0⟩ ∧ ∀ j, (t.links.get j).raised &&& flagCarrier = flagCarrier
    (x.inRange → x.aligns (s.ftr.get k).mode = false → (s.clc.get k).unalignedRun = 3 →
      Completes (.sample k x) s fun t => lost t ∧ t.out = x.switchSent k (s.ftr.get k).mode) ∧
    ((s.clc.get k).headerRun = 3 → Completes (.frameReceived k none bs) s fun t => lost t ∧ t.out = []) ∧
    ((s.clc.get k).headerRun = 3 → s.settings.top < h.profile → Completes (.frameReceived k (some h) bs) s fun t =>
      lost t ∧ t.out = [] ∧ (t.scu.get k).errors = satSucc32 (s.scu.get k).errors) ∧
    ((s.clc.get k).headerRun = 3 → h.profile ≤ s.settings.top → h.slot = none → h.aligned = false →
      Completes (.frameReceived k (some h) bs) s fun t =>
        lost t ∧ t.out = [] ∧ t.htu.lastHeader = s.htu.lastHeader.set k (some (h.hsn, h.frame)))

/-- An emergency of a LOCKED carrier's unit above profile 0 enters DROPPING (R51–R54, R72): the ask is abandoned, the up-dwell count
is 0, the unit's RX_PROFILE entry goes and no other. -/
def Obligations.EmergencyEntersDropping : Prop :=
  ∀ (k : CarrierId) (u : UnitId) (x : SampleData) (s : State), s.steady → s.link k = .locked → s.unitOf k = some u → x.inRange →
    (x.aligns (s.ftr.get k).mode = true ∨ (s.clc.get k).unalignedRun < 3) → (s.clc.get k).headerRun < 4 →
    (s.ade.get u).state ≠ .dropping → ({ s with ftr := s.ftr.set k ((s.ftr.get k).sampled x) } : State).emergencyHolds u = true →
    s.capacityLaw →
    Completes (.sample k x) s fun t =>
      t.ade = (s.adeBut t k).modify u (fun a => { a with ask := none, upDwell := 0, state := .dropping }) ∧ t.HandsShortMean k ∧
      t.plc = { s.plc with plan := s.plc.plan.filter fun e => !e.isRxOf u } ∧
      t = { s with ftr := s.ftr.set k ((s.ftr.get k).sampled x),
                   clc := s.clc.set k ((s.clc.get k).counted (x.aligns (s.ftr.get k).mode)), ade := t.ade, plc := t.plc,
                   out := x.switchSent k (s.ftr.get k).mode }

/-- A request is not answered while the transmitter is muted or unpowered (R19). In ACQUIRE it is answered with a training frame:
profile 0, all idle, its slot the head of the service queue (R27, R16). Frame 0 on the anchor carries a HELLO with the local values,
and the service queue is not drawn on (R16). -/
def Obligations.RequestIsAnsweredByItsState : Prop :=
  (∀ (k : CarrierId) (h : Hsn) (f : FrameNo) (s : State), s.steady →
    (s.link k ≠ .acquire → s.link k ≠ .locked → Completes (.frameRequest k h f) s fun t => t = { s with out := [] }) ∧
    (s.link k = .acquire → s.noneDue h → ¬(f = 0 ∧ s.htu.anchor = some k) → Completes (.frameRequest k h f) s fun t =>
      t = { s with scu := s.popped k, out := [.frame k (s.headerFor k 0 h f (s.scu.get k).queue.head?) (s.settings.modulation 0)
        (List.replicate (s.settings.blocks 0) none)] })) ∧
  (∀ (k : CarrierId) (u : UnitId) (h : Hsn) (s : State), s.steady → s.link k = .locked → s.unitOf k = some u →
    s.htu.anchor = some k → s.noneDue h → Completes (.frameRequest k h 0) s fun t =>
      t.scu = s.scu ∧ ∃ q m bs, t.out = [.frame k (s.headerFor k q h 0 (some (s.greeting h))) m bs])

namespace Sys2Proof.Machine

/-- No packet has a byte to stage, and no continuation stands: a refill stages nothing (R145). -/
def State.nothingToStage (s : State) : Prop :=
  (∀ j l, ∀ p ∈ (s.sched.lane j l).queue, p.staged = p.data.length) ∧
  ∀ u, (s.sched.staging.get u).contAssured = none ∧ (s.sched.staging.get u).contOther = none

/-- Fragments of packet record `id` of lane (j, l) in blocks. -/
def fragsOf (bs : List Block) (j : TenantId) (l : LaneIx) (id : Nat) : List Frag :=
  (bs.filter fun b => b.tenant == j && b.lane == l).flatMap fun b => b.frags.filter fun f => f.pkt == id

/-- A lane after blocks have been sent (R151, R164): the bytes carried count as sent, a packet whose LAST fragment was carried leaves,
and the stall timer stops at 0 when the queue becomes empty (R168). -/
def Lane.carried (bs : List Block) (j : TenantId) (l : LaneIx) (z : Lane) : Lane :=
  let q := (z.queue.map fun p => { p with sent := p.sent + ((fragsOf bs j l p.id).map Frag.len).sum }).filter fun p =>
    (fragsOf bs j l p.id).all fun f => !f.last
  { z with queue := q, timer := if z.queue ≠ [] ∧ q = [] then 0 else z.timer }

/-- Units of a part of the pool that the packets of a lane give back when blocks have been sent (R164). -/
def Lane.gives (bs : List Block) (j : TenantId) (l : LaneIx) (part : Pool) (z : Lane) : Nat :=
  (z.queue.map fun p =>
    if p.pool = part ∧ (fragsOf bs j l p.id).any Frag.last = true then ceilDiv p.data.length 64 else 0).sum

/-- The lanes and the pool after blocks have been sent, all else of the scheduler as the stagings and lanes of `t` have it. -/
def State.CarriedAway (s t : State) (bs : List Block) : Prop :=
  let x := s.sched
  t.sched = { x with
    staging := t.sched.staging, lanes := t.sched.lanes
    reserveHeld := .build fun j => x.reserveHeld.get j - (laneIds.map fun l => (x.lane j l).gives bs j l .reserve).sum
    sharedHeld := x.sharedHeld - (allLanes.map fun i => (x.lane i.1 i.2).gives bs i.1 i.2 .shared).sum } ∧
  ∀ j l, t.sched.lane j l = (x.lane j l).carried bs j l

/-- The counts of a frame of `n` blocks with `m` of traffic are handed on (R126). -/
def Cpm.frameCounted (c : Cpm) (u : UnitId) (n m : Nat) : Cpm :=
  { c with offered := c.offered.modify u (fun x => min (x + n) 6144), traffic := c.traffic.modify u (fun x => min (x + m) 12288) }

/-- The pair frame record once member `k` has taken it: none when every joined member has (R152). -/
def State.recordAfter (s : State) (k : CarrierId) (u : UnitId) (r : PairRecord) : Option PairRecord :=
  let r := if k ∈ r.takenBy then r else { r with takenBy := r.takenBy ++ [k] }
  if ∀ m ∈ s.members u, s.isJoined m = true → m ∈ r.takenBy then none else some r

end Sys2Proof.Machine

/-- A frame on a LOCKED single carrier (R151), the HELLO frame among them (R16): joined, with its unit in service or draining, it
carries the blocks at the heads of the Assured and then the Other segment, and idle blocks after them; otherwise idle blocks alone. The
counts are handed on (R126). Where a refill stages nothing, the blocks leave the staging, their bytes are sent, packets whose LAST
fragment was carried leave and free their units (R164), and nothing else of the scheduler changes. On a mirror pair (R152; log 16) the
first member's request assigns the frame and the pair frame record, the other member's request for the same frame takes the record's
blocks under its profile, and the record closes when every joined member has taken it. -/
def Obligations.LockedFrameCarriesStagedBlocks : Prop :=
  ∀ (k : CarrierId) (u : UnitId) (h : Hsn) (f : FrameNo) (slot : Option Message) (scu : Four Scu) (s : State), s.steady →
    s.link k = .locked → s.unitOf k = some u → s.noneDue h → s.Fills k h f slot scu →
    let q := s.plc.txProfile.get u
    let n := s.settings.blocks q
    let g := s.sched.staging.get u
    let goes := s.inService u = true ∨ s.isDraining u = true
    let sends := (s.clc.get k).joined = true ∧ goes
    let frame := fun (t : State) (p : Nat) (bs : List (Option Block)) =>
      t.out = [.frame k (s.headerFor k p h f slot) (s.settings.modulation p) bs]
    let filled := fun bs : List Block => bs.map some ++ List.replicate (n - bs.length) none
    let assured := g.assured.take n
    let other := g.other.take (n - assured.length)
    let drained := { g with assured := g.assured.drop n, other := g.other.drop (n - assured.length) }
    let still := s.nothingToStage ∧ s.accountLaw
    (s.isPair u = false →
      let bs := if sends then assured ++ other else []
      Completes (.frameRequest k h f) s fun t =>
        frame t q (filled bs) ∧
        t = { s with scu := scu, sched := t.sched, out := t.out, cpm := s.cpm.frameCounted u n bs.length } ∧
        (still → s.CarriedAway t bs ∧ t.sched.staging = if sends then s.sched.staging.set u drained else s.sched.staging)) ∧
    (s.isPair u = true → sends → (∀ r, g.record = some r → ¬(r.hsn = h ∧ r.frame = f)) →
      let bs := assured ++ other
      Completes (.frameRequest k h f) s fun t =>
        let record := s.recordAfter k u ⟨h, f, q, filled bs, [k]⟩
        frame t q (filled bs) ∧ (t.sched.staging.get u).record = record ∧
        t = { s with scu := scu, sched := t.sched, out := t.out, cpm := s.cpm.frameCounted u n bs.length } ∧
        (still → s.CarriedAway t bs ∧ t.sched.staging = s.sched.staging.set u { drained with record := record })) ∧
    (∀ r, g.record = some r → s.isPair u = true → sends → r.hsn = h → r.frame = f → Completes (.frameRequest k h f) s fun t =>
      frame t r.profile r.blocks ∧ (t.sched.staging.get u).record = s.recordAfter k u r ∧
      t = { s with scu := scu, sched := t.sched, out := t.out }) ∧
    (s.isPair u = true → ¬sends → Completes (.frameRequest k h f) s fun t =>
      frame t q (filled []) ∧
      (t.sched.staging.get u).record = g.record.filter (fun r => r.hsn == h && r.frame == f) ∧
      t = { s with scu := scu, sched := t.sched, out := t.out,
                   cpm := if ¬goes ∧ (k = u ∨ s.isLocked u = false) then s.cpm.frameCounted u n 0 else s.cpm })

/-- The entries whose target a request names are applied before the frame is built (R96): afterwards none of them stands in the plan,
and a carrier that is still in ACQUIRE or LOCKED is answered with a frame of that superframe, at profile 0 in ACQUIRE and at the transmit
profile then in force on a LOCKED carrier, but for a frame that stands in a pair frame record already (R152). Where one entry alone is
due, it has the effect of its kind (R97) and PLAN is raised; a TX_PROFILE entry leaves the plan, a frame of its unit is sent at the
new profile, and C follows: a fall rescales the credits, and a change raises CAPACITY (R140, R143). -/
def Obligations.RequestAppliesTheProfileEntry : Prop :=
  (∀ (k : CarrierId) (h : Hsn) (f : FrameNo) (s : State), s.steady → s.link k = .acquire ∨ s.link k = .locked →
    s.htu.anchor = s.lowestLocked → Completes (.frameRequest k h f) s fun t =>
      let sends := fun q => ∃ hdr m bs, .frame k hdr m bs ∈ t.out ∧ hdr.profile = q ∧ hdr.hsn = h ∧ hdr.frame = f ∧
        bs.length = s.settings.blocks q
      t.noneDue h ∧
      (t.link k = .acquire → sends 0) ∧
      (t.link k = .locked → ∀ u, s.unitOf k = some u →
        (∀ r, (s.sched.staging.get u).record = some r → ¬(r.hsn = h ∧ r.frame = f)) → sends (t.plc.txProfile.get u))) ∧
  (∀ (k : CarrierId) (h : Hsn) (f : FrameNo) (e : Entry) (s : State), s.steady → s.link k = .acquire ∨ s.link k = .locked →
    s.htu.anchor = s.lowestLocked → e ∈ s.plc.plan → e.isRx = false → e.state = .agreed → e.target = some h →
    (∀ x ∈ s.plc.plan, x.isRx = false → x.state = .agreed → x.target = some h → x = e) →
    Completes (.frameRequest k h f) s fun t =>
      (∀ j, (t.links.get j).raised &&& flagPlan = flagPlan) ∧
      (∀ u q, e.change = .txProfile u q →
        (s.link k = .acquire → s.capacityLaw → s.CapacityFollows t ∧ s.Raised (flagPlan ||| s.capacityFlag t) t) ∧
        t.plc = { s.plc with plan := s.plc.plan.filter (· ≠ e), txProfile := s.plc.txProfile.set u q } ∧
        (s.link k = .locked → s.unitOf k = some u →
          (∀ r, (s.sched.staging.get u).record = some r → ¬(r.hsn = h ∧ r.frame = f)) →
          ∃ hdr m bs, t.out = [.frame k hdr m bs] ∧ hdr.profile = q ∧ hdr.hsn = h ∧ hdr.frame = f ∧ bs.length = s.settings.blocks q)) ∧
      (∀ j, e.change = .link (.park j) → s.ParkApplied t j) ∧
      (∀ j, e.change = .link (.wake j) → s.WakeApplied t j) ∧
      (∀ c d, e.change = .link (.promote c d) → s.PromoteApplied t c d) ∧
      (∀ c d, e.change = .link (.revert c d) → s.RevertApplied t c d))

/-- A frame carries traffic only on a LOCKED and joined carrier whose unit is in service or draining (R151, R152). -/
def Obligations.TrafficOnlyOnJoinedCarriers : Prop :=
  ∀ (k k' : CarrierId) (h : Hsn) (f : FrameNo) (s t : State) (hdr : FrameHeader) (m : Option (Constellation × CodeRate))
    (bs : List (Option Block)) (b : Block),
    exec (.frameRequest k h f) s = .next t → .frame k' hdr m bs ∈ t.out → some b ∈ bs →
    k' = k ∧ t.isJoined k = true ∧ ∃ u, t.unitOf k = some u ∧ (t.inService u = true ∨ t.isDraining u = true)

/-- Headers off a LOCKED carrier (R11, R19, R27, R28). In ACQUIRE a bad one counts as one without ALIGNED; one whose profile is above
the ladder does so and counts as a service error; a good one is kept as the latest, and locks the carrier when the aligned-sample run
stands at 8. In PARKED a good one is kept as the latest, and one above the ladder counts as a service error. In DOWN, WAKING and
HOLDOFF a frame is discarded, which is the model's reading of R11 and R28 beside R19 (log 43). That ALIGNED of a header in PARKED moves
nothing at the controller is the model's choice (log 45). -/
def Obligations.HeaderOffALockedCarrier : Prop :=
  ∀ (k : CarrierId) (u : UnitId) (x : Header) (y : Option Header) (bs : List RxBlock) (s : State), s.steady → s.unitOf k = some u →
    let bad := s.clc.modify k fun c => { c with headerAligned := false, headerRun := min (c.headerRun + 1) 4 }
    let seen := { s.clc.get k with headerAligned := x.aligned,
                                   headerRun := if x.aligned then 0 else min ((s.clc.get k).headerRun + 1) 4 }
    let htu := { s.htu with lastHeader := s.htu.lastHeader.set k (some (x.hsn, x.frame)) }
    let counted := s.scu.modify k fun y => { y with errors := satSucc32 y.errors }
    (s.link k = .down ∨ s.link k = .waking ∨ s.link k = .holdoff → Completes (.frameReceived k y bs) s fun t =>
      t = { s with out := [] }) ∧
    (s.link k = .parked →
      (Completes (.frameReceived k none bs) s fun t => t = { s with out := [] }) ∧
      (s.settings.top < x.profile → Completes (.frameReceived k (some x) bs) s fun t => t = { s with scu := counted, out := [] }) ∧
      (x.profile ≤ s.settings.top → x.slot = none → Completes (.frameReceived k (some x) bs) s fun t =>
        t = { s with htu := htu, out := [] })) ∧
    (s.link k = .acquire → s.htu.anchor = s.lowestLocked →
      (Completes (.frameReceived k none bs) s fun t => t = { s with clc := bad, out := [] }) ∧
      (s.settings.top < x.profile → Completes (.frameReceived k (some x) bs) s fun t =>
        t = { s with clc := bad, scu := counted, out := [] }) ∧
      (x.profile ≤ s.settings.top → x.slot = none → ¬(x.aligned = true ∧ 8 ≤ (s.clc.get k).alignedRun) →
        Completes (.frameReceived k (some x) bs) s fun t => t = { s with htu := htu, clc := s.clc.set k seen, out := [] }) ∧
      (x.profile ≤ s.settings.top → x.slot = none → x.aligned = true → x.drop = false → 8 ≤ (s.clc.get k).alignedRun →
        Completes (.frameReceived k (some x) bs) s fun t =>
          t.clc = s.clc.set k seen.locked ∧ s.GainedLocked t k u ∧ t.htu.lastHeader = htu.lastHeader))

/-- A header on a LOCKED carrier that does not lose the lock. A bad one, and one above the ladder, counts as one without ALIGNED, the
latter as a service error too, and their blocks are bad (R11). A good one (R75, R73, R98, R99): its ALIGNED is counted, the receive
profile is the header's, a unit in DROPPING whose header shows profile 0 returns to STEADY with the drop hold set, and DROP_REQUEST
takes the transmit profile to 0 and removes the unit's TX_PROFILE entry; C follows the profile, a fall rescales the credits, and a
change raises CAPACITY (R140, R143). -/
def Obligations.HeaderOnALockedCarrier : Prop :=
  ∀ (k : CarrierId) (u : UnitId) (x : Header) (bs : List RxBlock) (s : State), s.steady → s.link k = .locked →
    s.unitOf k = some u → (s.clc.get k).unalignedRun < 4 →
    let seen := fun aligned : Bool => s.clc.modify k fun c =>
      { c with headerAligned := aligned, headerRun := if aligned then 0 else c.headerRun + 1 }
    ((s.clc.get k).headerRun < 3 → s.isPair u = false →
      (Completes (.frameReceived k none bs) s fun t => t = { s with clc := seen false, out := [] }) ∧
      (s.settings.top < x.profile → Completes (.frameReceived k (some x) bs) s fun t =>
        t = { s with clc := seen false, scu := s.scu.modify k (fun y => { y with errors := satSucc32 y.errors }), out := [] })) ∧
    (x.profile ≤ s.settings.top → x.slot = none → x.aligned = true ∨ (s.clc.get k).headerRun < 3 →
      Completes (.frameReceived k (some x) bs) s fun t =>
        t.htu = { s.htu with lastHeader := s.htu.lastHeader.set k (some (x.hsn, x.frame)) } ∧
        t.clc = seen x.aligned ∧
        t.ade = s.ade.set u (t.ade.get u) ∧ (t.ade.get u).rxProfile = x.profile ∧
        (x.profile ≠ (s.ade.get u).rxProfile → (t.ade.get u).upDwell = 0 ∧ t.plc.plan.all (fun e => !e.isRxTo u x.profile) = true) ∧
        ((s.ade.get u).state = .dropping → x.profile = 0 →
          (t.ade.get u).state = .steady ∧ (t.ade.get u).dropHold = s.settings.dropHold ∧ (t.ade.get u).upDwell = 0) ∧
        t.plc.dropSeen = s.plc.dropSeen.set u x.drop ∧
        (x.drop = true → t.plc.txProfile = s.plc.txProfile.set u 0 ∧ t.plc.plan.all (fun e => !e.isTxOf u) = true) ∧
        (x.drop = false → t.plc.txProfile = s.plc.txProfile) ∧
        (s.capacityLaw → s.CapacityFollows t ∧ (t.hopCapacity ≠ s.sched.capacity → ∀ j, (t.links.get j).raised &&& flagCapacity ≠ 0) ∧
          (s.isPair u = false → (∀ b ∈ bs, b.good = false) → t.rxa = s.rxa ∧ t.cpm = s.cpm ∧
            s.Raised ((if x.drop then s.planFlagOf (Entry.isTxOf u) else 0) ||| s.capacityFlag t) t)) ∧
        (∀ j, t.links.get j = { s.links.get j with
          counters := (t.links.get j).counters, raised := (t.links.get j).raised, sent := (t.links.get j).sent,
          notice := (t.links.get j).notice, tx := (t.links.get j).tx }) ∧
        t = { s with htu := t.htu, clc := t.clc, ade := t.ade, plc := t.plc, sched := t.sched, rxa := t.rxa,
                     cpm := { s.cpm with traffic := t.cpm.traffic }, links := t.links, out := [] })

namespace Sys2Proof.Machine

/-- A frame of a LOCKED single carrier arrives with a good header and one good traffic block `b` among bad and idle ones, as many as
its profile gives. -/
def State.HearsBlock (s : State) (k : CarrierId) (u : UnitId) (x : Header) (before : List RxBlock) (b : RxBlock)
    (behind : List RxBlock) : Prop :=
  s.steady ∧ s.link k = .locked ∧ s.unitOf k = some u ∧ s.isPair u = false ∧ x.profile ≤ s.settings.top ∧ x.slot = none ∧
  x.aligned = true ∧ (s.clc.get k).unalignedRun < 4 ∧ (∀ y ∈ before ++ behind, y.good = false ∨ y.tenant = none) ∧
  (before ++ [b] ++ behind).length = s.settings.blocks x.profile

/-- A good block of lane (j, l) with one fragment, of the first `n` bytes of `payload`. -/
def blockOf (j : TenantId) (l : LaneIx) (seq n : Nat) (first last : Bool) (payload : List Byte) : RxBlock :=
  ⟨true, some j.val, some (l.val + 1), some seq, [⟨0, n, first, last⟩], payload⟩

/-- The set of the cache that takes lane (j, l) (R178). -/
def State.rxSet (s : State) (j : TenantId) (l : LaneIx) : CacheSet := s.rxa.sets[(setIndex j l).val]

/-- The counters of tenant `j` are `c`, those of the others as before, and DISCARD is raised on `j`. -/
def State.Discards (s t : State) (j : TenantId) (c : Counters) : Prop :=
  (∀ i, (t.links.get i).counters = if i = j then c else (s.links.get i).counters) ∧
  (t.links.get j).raised &&& flagDiscard = flagDiscard

/-- No counter changes. -/
def State.SameCounters (s t : State) : Prop := ∀ i, (t.links.get i).counters = (s.links.get i).counters

/-- Set of the cache `c` is in the place of lane (j, l)'s; the other sets are as before. -/
def State.SetBecomes (s t : State) (j : TenantId) (l : LaneIx) (c : CacheSet) : Prop :=
  t.rxa.sets = s.rxa.sets.set (setIndex j l).val c

/-- The way that an allocation takes (R180): a FREE one, way 0 first, else the one used least recently; false is way 0. -/
def CacheSet.allots (c : CacheSet) : Bool :=
  if c.way0 = none then false else if c.way1 = none then true else c.lru1

/-- The set with `y` in way `w`, which is the one used most recently. -/
def CacheSet.used (c : CacheSet) (w : Bool) (y : Option Way) : CacheSet :=
  if w then { c with way1 := y, lru1 := false } else { c with way0 := y, lru1 := true }

end Sys2Proof.Machine

/-- A packet whose last byte arrives (R181), in one block that holds it whole or in a block that continues what its way has collected,
and that stands among bad and idle ones: discarded as LANE for a tenant not enrolled, as LINK_DOWN while its link is down, as EGRESS
where its buffer holds more than 512 less the units needed, and otherwise appended at the tail of the buffer. The block counts as
traffic of its unit (R126). The lane table plays no part. -/
def Obligations.CompletedPacketIsHandled : Prop :=
  ∀ (k : CarrierId) (u : UnitId) (x : Header) (before behind : List RxBlock) (j : TenantId) (l : LaneIx) (n seq : Nat) (first : Bool)
    (payload packet : List Byte) (s : State),
    s.HearsBlock k u x before (blockOf j l seq n first true payload) behind → 1 ≤ n → n ≤ 64 → payload.length = 64 → seq ≤ 15 →
    ((s.rxSet j l).find j l = none ∧ first = true ∧ packet = payload.take n ∨
      first = false ∧ ∃ w, (s.rxSet j l).find j l = some w ∧ ∃ y, (s.rxSet j l).way w = some y ∧
        y.expect = BitVec.ofNat 4 seq ∧ packet = y.data ++ payload.take n ∧ packet.length ≤ 2048) →
    Completes (.frameReceived k (some x) (before ++ [blockOf j l seq n first true payload] ++ behind)) s fun t =>
      let c := (s.links.get j).counters
      let up := (s.links.get j).up
      let enrolled := s.settings.enrolled j
      let need := (packet.length + 63) / 64
      let held := unitsHeld (s.rxa.egress.get j)
      let full := 512 - need < held
      let discards := fun d : Counters => t.rxa.egress = s.rxa.egress ∧
        (t.links.get j).counters = d ∧ (t.links.get j).raised &&& flagDiscard = flagDiscard
      t.cpm.traffic = s.cpm.traffic.modify u (fun c => min (c + 1) 12288) ∧
      (enrolled = false → discards { (t.links.get j).counters with lane := satSucc32 c.lane }) ∧
      (enrolled = true → up = false → discards { (t.links.get j).counters with linkDown := satSucc32 c.linkDown }) ∧
      (enrolled = true → up = true → full → discards { (t.links.get j).counters with egress := satSucc32 c.egress }) ∧
      (enrolled = true → up = true → ¬full →
        t.rxa.egress = s.rxa.egress.modify j (fun ps => ps ++ [⟨l, packet⟩]) ∧
        unitsHeld (t.rxa.egress.get j) = held + need ∧ held + need ≤ 512)

/-- A block in the reassembly cache (R178–R180), alone among bad and idle ones in its frame. Without a way of its lane, it is dropped
unless it begins with FIRST; then it takes a FREE way or evicts the one used least recently. With one, in sequence, it is added, and a
block that begins with FIRST or goes beyond 2048 bytes loses what was collected; out of sequence, what was collected is lost and the
block is taken afresh. A fragment behind a LAST one begins the next packet. -/
def Obligations.BlocksAreReassembled : Prop :=
  ∀ (k : CarrierId) (u : UnitId) (x : Header) (before behind : List RxBlock) (j : TenantId) (l : LaneIx) (n seq : Nat)
    (payload : List Byte) (s : State), 1 ≤ n → n ≤ 64 → payload.length = 64 → seq ≤ 15 →
    let hears := fun (b : RxBlock) (P : State → Prop) => s.HearsBlock k u x before b behind →
      Completes (.frameReceived k (some x) (before ++ [b] ++ behind)) s fun t =>
        t.cpm.traffic = s.cpm.traffic.modify u (fun c => min (c + 1) 12288) ∧ P t
    let set := s.rxSet j l
    let bytes := payload.take n
    let next := BitVec.ofNat 4 (seq + 1)
    let fresh : Way := ⟨j, l, next, bytes⟩
    let c := (s.links.get j).counters
    let lost := { c with rxLoss := satSucc32 c.rxLoss }
    (set.find j l = none → hears (blockOf j l seq n false false payload) fun t => t.rxa = s.rxa ∧ s.SameCounters t) ∧
    (set.find j l = none → set.way set.allots = none → hears (blockOf j l seq n true false payload) fun t =>
      s.SetBecomes t j l (set.used set.allots (some fresh)) ∧ t.rxa.egress = s.rxa.egress ∧ s.SameCounters t) ∧
    (∀ y, set.way set.allots = some y → set.find j l = none → hears (blockOf j l seq n true false payload) fun t =>
      let d := (s.links.get y.tenant).counters
      s.SetBecomes t j l (set.used set.allots (some fresh)) ∧ t.rxa.egress = s.rxa.egress ∧
      s.Discards t y.tenant { d with rxEvict := satSucc32 d.rxEvict }) ∧
    (set.find j l = none → hears (blockOf j l seq n true true payload) fun t => s.SetBecomes t j l (set.used set.allots none)) ∧
    (∀ w, set.find j l = some w → ∀ y, set.way w = some y → y.expect = BitVec.ofNat 4 seq →
      (y.data.length + n ≤ 2048 →
        (hears (blockOf j l seq n false false payload) fun t =>
          s.SetBecomes t j l (set.used w (some ⟨j, l, next, y.data ++ bytes⟩)) ∧ t.rxa.egress = s.rxa.egress ∧ s.SameCounters t) ∧
        (hears (blockOf j l seq n false true payload) fun t => s.SetBecomes t j l (set.used w none)) ∧
        (∀ m, 1 ≤ m → n + m ≤ 64 →
          hears ⟨true, some j.val, some (l.val + 1), some seq, [⟨0, n, false, true⟩, ⟨n, m, true, false⟩], payload⟩ fun t =>
            s.SetBecomes t j l (set.used w (some ⟨j, l, next, (payload.drop n).take m⟩)))) ∧
      (2048 < y.data.length + n → ∀ last, hears (blockOf j l seq n false last payload) fun t =>
        s.SetBecomes t j l (set.used w none) ∧ t.rxa.egress = s.rxa.egress ∧ s.Discards t j lost) ∧
      (hears (blockOf j l seq n true false payload) fun t =>
        s.SetBecomes t j l (set.used w (some fresh)) ∧ t.rxa.egress = s.rxa.egress ∧ s.Discards t j lost)) ∧
    (∀ w, set.find j l = some w → ∀ y, set.way w = some y → y.expect ≠ BitVec.ofNat 4 seq →
      let freed := if w then { set with way1 := none } else { set with way0 := none }
      (hears (blockOf j l seq n false false payload) fun t =>
        s.SetBecomes t j l freed ∧ t.rxa.egress = s.rxa.egress ∧ s.Discards t j lost) ∧
      (hears (blockOf j l seq n true false payload) fun t =>
        s.SetBecomes t j l (freed.used freed.allots (some fresh)) ∧ t.rxa.egress = s.rxa.egress ∧ s.Discards t j lost))

/-- Is a received block good: marked so, and an idle block, which has no tenant, lane, sequence or descriptor, or a traffic block whose
header keeps every constraint of R12? -/
def Sys2Proof.RxBlock.holdsGood (b : RxBlock) : Bool :=
  b.good && (decide (b.tenant = none ∧ b.lane = none ∧ b.seq = none ∧ b.frags = []) ||
    (b.tenant.any (· ≤ 3) && b.lane.any (fun n => decide (1 ≤ n ∧ n ≤ 31)) && b.seq.any (· ≤ 15) &&
      decide (b.payload.length = 64 ∧ 1 ≤ b.frags.length ∧ b.frags.length ≤ 4 ∧
        (∀ f ∈ b.frags, 1 ≤ f.len ∧ f.off + f.len ≤ 64) ∧ b.frags.Pairwise fun f g => f.off + f.len ≤ g.off)))

/-- Frames of a mirror pair (R176, R177). A frame with a good header is held while the other member is LOCKED, and goes to reassembly
alone otherwise; a frame of the other member with the same (HSN, frame) is combined with the held one; any other frame sends the held
one to reassembly alone and is then taken as by an empty hold. A bad header drops its blocks, and releases a frame of its own member; a
member's fault releases what is held. Combined, at equal profiles each position takes the primary's copy if it is good and else the
mirror's, where a copy that breaks R12 is not good (log 42); at different profiles the primary's frame goes alone. The primary's is the
frame with MIRROR clear, or, where the flags agree, the primary member's. -/
def Obligations.MirrorFramesAreCombined : Prop :=
  ∀ (k : CarrierId) (u : UnitId) (x : Header) (bs : List RxBlock) (s : State), s.steady → s.link k = .locked → s.unitOf k = some u →
    s.isPair u = true → (s.clc.get k).unalignedRun < 4 →
    let own : HeldFrame := ⟨k, x.hsn, x.frame, x.profile, x.mirror, bs⟩
    let goes := fun (t : State) (hold : Option HeldFrame) (out : List RxBlock) =>
      let r := ({ s with rxa := { s.rxa with hold := s.rxa.hold.set u hold } } : State).reassemble u out
      t.rxa = r.rxa ∧ t.cpm.traffic = r.cpm.traffic
    let good := x.profile ≤ s.settings.top ∧ x.slot = none ∧ x.aligned = true ∧ bs.length = s.settings.blocks x.profile
    (good → Completes (.frameReceived k (some x) bs) s fun t =>
      (s.rxa.hold.get u = none → s.otherLocked k = true → goes t (some own) []) ∧
      (s.rxa.hold.get u = none → s.otherLocked k = false → goes t none bs) ∧
      (∀ g, s.rxa.hold.get u = some g →
        (g.member = k ∨ ¬(g.hsn = x.hsn ∧ g.frame = x.frame) →
          (s.otherLocked k = true → goes t (some own) g.blocks) ∧ (s.otherLocked k = false → goes t none (g.blocks ++ bs))) ∧
        (g.member ≠ k → g.hsn = x.hsn → g.frame = x.frame →
          let first := if g.mirror = x.mirror then g.member = u else g.mirror = false
          let primary := if first then g.blocks else bs
          let mirror := if first then bs else g.blocks
          (g.profile = x.profile → g.blocks.length = bs.length →
            goes t none (List.zipWith (fun a b => if a.holdsGood then a else b) primary mirror)) ∧
          (g.profile ≠ x.profile → goes t none primary)))) ∧
    ((s.clc.get k).headerRun < 3 → Completes (.frameReceived k none bs) s fun t =>
      (s.rxa.hold.get u = none → goes t none []) ∧
      (∀ g, s.rxa.hold.get u = some g → g.member = k → goes t none g.blocks) ∧
      (∀ g, s.rxa.hold.get u = some g → g.member ≠ k → goes t (some g) [])) ∧
    (s.htu.anchor = s.lowestLocked → ∀ g, s.rxa.hold.get u = some g → Completes (.modemFault k) s fun t => goes t none g.blocks)

/-! ## Service messages -/

namespace Sys2Proof

/-- A message as it stands in a slot: every field of the table of R13 present, the value of a PARK or WAKE and the tag of an unsolicited
POWER_SET absent. -/
def Message.raw (m : Message) : RawMessage :=
  match m with
  | .hello h => .hello (some h.role) (some h.hsn.toNat) (some h.mode) (some h.limit) (h.level.map some) (h.cap.map some) (some h.hold)
      (some h.digest.toNat)
  | .proposeRx tag u q => .propose (some tag.toNat) (some u.val) (some .rxProfile) (some q)
  | .proposeLink tag (.park k) => .propose (some tag.toNat) (some k.val) (some .park) none
  | .proposeLink tag (.wake k) => .propose (some tag.toNat) (some k.val) (some .wake) none
  | .proposeLink tag (.promote k d) => .propose (some tag.toNat) (some k.val) (some .promote) (some d.val)
  | .proposeLink tag (.revert k d) => .propose (some tag.toNat) (some k.val) (some .revert) (some d.val)
  | .agree tag target => .agree (some tag.toNat) (some target.toNat)
  | .decline tag r => .decline (some tag.toNat) (some r)
  | .powerAsk tag k d => .powerAsk (some tag.toNat) (some k.val) (some d)
  | .powerSet tag k n r => .powerSet (tag.map BitVec.toNat) (some k.val) (some n) (some r)

/-- The row of a message taken on carrier `k` under header `x` (R18). -/
def Message.row (k : CarrierId) (x : Header) (m : Message) : Instr :=
  match m with
  | .hello h => .hello k x.hsn x.frame h
  | .proposeRx tag u q => .proposeRxProfile k tag u q
  | .proposeLink tag c => .proposeLink k tag c
  | .agree tag target => .agree k tag target
  | .decline tag r => .decline k tag r
  | .powerAsk tag c d => .powerAsk k tag c d
  | .powerSet tag c n r => .powerSet k tag c n r

end Sys2Proof

/-- The slot of a good header (R11, R17, R18), in every link state that takes a header: the frame does what it does without its slot, and
the message then has the effect of its own row (log 7), the malformed ones of R17 among them. The outputs of both stand in that order;
the links differ from those two steps at most in which frame a transmitter took up that was free before both (log 15). A slot that spells
no message of the table of R13 adds one to the carrier's service errors and does nothing else. -/
def Obligations.SlotIsTakenAsItsRow : Prop :=
  ∀ (k : CarrierId) (x : Header) (raw : RawMessage) (bs : List RxBlock) (s : State), s.steady →
    s.link k = .acquire ∨ s.link k = .locked ∨ s.link k = .parked → x.profile ≤ s.settings.top → x.slot = some raw →
    Completes (.frameReceived k (some { x with slot := none }) bs) s fun bare =>
      (∀ m : Message, raw = m.raw → Completes (m.row k x) bare fun after => Completes (.frameReceived k (some x) bs) s fun t =>
        t = { after with links := t.links, out := bare.out ++ after.out } ∧
        (∀ j, t.links.get j = { after.links.get j with tx := (t.links.get j).tx, notice := (t.links.get j).notice }) ∧
        ∀ j, (s.links.get j).tx ≠ none ∨ bare.rxa.egress.get j = s.rxa.egress.get j → t.links.get j = after.links.get j) ∧
      ((∀ m : Message, raw ≠ m.raw) → Completes (.frameReceived k (some x) bs) s fun t =>
        t = { bare with scu := bare.scu.modify k fun y => { y with errors := satSucc32 y.errors } })

/-- HELLO (R8, R17, R60, R70, R118, R123, R124): a malformed one is counted and nothing else; a good one sets the peer view, the
peer's limit and hold, the role conflict, and clears a peer-at-cap mark that it shows new room for. HOP is raised by a conflict, at
every such HELLO also where the indication stands already, which is the model's reading of R8 (log 33), and by a digest comparison that
changes to mismatch. That a message can be taken without its frame is the model's choice (log 7). -/
def Obligations.HelloSetsThePeerView : Prop :=
  ∀ (k : CarrierId) (hh : Hsn) (hf : FrameNo) (h : Hello) (s : State), s.steady →
    let good := 1 ≤ h.limit ∧ h.limit ≤ 4 ∧ (∀ j, h.level.get j ≤ 15 ∧ h.cap.get j ≤ 15) ∧ h.hold ≤ 4 ∧ hf = 0 ∧ h.hsn = hh
    let room := fun a : Ade => ∃ l c k, a.atCap = some (l, c) ∧ a.asked = some k ∧ h.level.get k < h.cap.get k ∧
      ((∀ n, l = some n → h.level.get k < n) ∨ (∀ n, c = some n → n < h.cap.get k))
    (¬good → Completes (.hello k hh hf h) s fun t =>
      t = { s with scu := s.scu.modify k (fun y => { y with errors := satSucc32 y.errors }), out := [] }) ∧
    (good → Completes (.hello k hh hf h) s fun t =>
      t.peer = ⟨some h.mode, h.level.map some, h.cap.map some, some h.digest⟩ ∧
      t.cpm = { s.cpm with peerLimit := some h.limit, peerHold := some h.hold } ∧
      t.htu = { s.htu with conflict := decide (h.role = s.settings.endRole) } ∧
      (∀ u, (room (s.ade.get u) → t.ade.get u = { s.ade.get u with atCap := none }) ∧
        (¬room (s.ade.get u) → t.ade.get u = s.ade.get u)) ∧
      s.SettlesTo t ∧
      s.Raised ((if h.role = s.settings.endRole ∨ (h.digest ≠ s.settings.digest ∧ s.digestMatch ≠ some false) then flagHop else 0)
        ||| s.settledFlag t) t ∧
      t = { s with peer := t.peer, cpm := t.cpm, htu := t.htu, ade := t.ade,
                   pbu := { s.pbu with settling := t.pbu.settling }, links := t.links, out := [] })

namespace Sys2Proof.Machine

/-- The table of R84 for a proposal of profile `q` whose unit field names carrier `c`: the reason of the DECLINE, if one applies. -/
def State.profileReason (s : State) (c : CarrierId) (q : Nat) : Option DeclineReason :=
  match s.unitOf c with
  | none => some .badValue
  | some u =>
    if s.settings.ladder.length - 1 < q then some .badValue
    else if (s.members u).all (fun k => s.link k != .locked) then some .notLocked
    else if s.plc.txProfile.get u < q ∧ (s.plc.dropSeen.get u = true ∨ s.peer.digest ≠ some s.settings.digest) then some .busy
    else if s.plc.draining.get u then some .linkPending
    else none

/-- The tests 1 to 6 of R85 in their order, at an end that does not give way in a crossing. -/
def State.linkReason (s : State) (c : LinkChange) : Option DeclineReason :=
  if s.htu.anchor = none then some .notLocked
  else if s.htu.conflict then some .badValue
  else if s.badNames c then some .badValue
  else if s.plc.plan.any (s.crosses c) then some .superseded
  else if s.linkPending c then some .linkPending
  else s.linkKindRefused c

/-- The draining marks after the agreement of a change (R93). -/
def State.drainingAfter (s : State) (c : LinkChange) : Four Bool :=
  match c with
  | .park k =>
    match s.unitOf k with
    | some u => if s.otherLocked k then s.plc.draining else s.plc.draining.set u true
    | none => s.plc.draining
  | .revert k _ =>
    match s.unitOf k with
    | some u => s.plc.draining.set u true
    | none => s.plc.draining
  | .wake _ => s.plc.draining
  | .promote _ _ => s.plc.draining

end Sys2Proof.Machine

/-- A profile proposal (R84) is declined for the first reason that applies, or agreed: for the present profile at once with no
entry, for a lower one at the next superframe, for a higher one at the one after; a new entry takes the place of the unit's old one, and
PLAN is raised where one came or went (R103). One of a profile above 11 is counted as malformed and nothing else (R17). That a message
can be taken without its frame is the model's choice (log 7). -/
def Obligations.ProfileProposalIsAnswered : Prop :=
  ∀ (k c : CarrierId) (tag : Tag) (q : Nat) (s : State), s.steady →
    (11 < q → Completes (.proposeRxProfile k tag c q) s fun t =>
      t = { s with scu := s.scu.modify k (fun y => { y with errors := satSucc32 y.errors }), out := [] }) ∧
    (∀ r, q ≤ 11 → s.profileReason c q = some r → Completes (.proposeRxProfile k tag c q) s fun t =>
      t = { s with scu := s.offered k (.decline tag r), out := [] }) ∧
    (∀ u, q ≤ 11 → s.unitOf c = some u → s.profileReason c q = none → s.capacityLaw → Completes (.proposeRxProfile k tag c q) s fun t =>
      let tx := s.plc.txProfile.get u
      let target := if q = tx then s.htu.hsn else if q < tx then s.htu.hsn + 1 else s.htu.hsn + 2
      t = { s with scu := s.offered k (.agree tag target), links := t.links, out := [],
                   plc := { s.plc with plan := s.plc.plan.filter (fun e => !e.isTxOf u) ++
                     if q = tx then [] else [⟨tag, .txProfile u q, some target, .peer, .agreed, 0⟩] } } ∧
      s.Raised (if q = tx then s.planFlagOf (Entry.isTxOf u) else flagPlan) t)

namespace Sys2Proof.Machine

/-- Tests 5 and 6 of R85. -/
def State.lateReason (s : State) (c : LinkChange) : Option DeclineReason :=
  if s.linkPending c then some .linkPending else s.linkKindRefused c

/-- The LINK proposal `c` of tag `tag` has been agreed on carrier `k`, the plan before it being `plan` (R88, R93): a PEER AGREED entry
at its kind's target, its draining mark, and the AGREE offered; where the mark takes a unit out of service, C follows. -/
def State.LinkAgreed (s t : State) (k : CarrierId) (tag : Tag) (c : LinkChange) (plan : List Entry) : Prop :=
  let target := s.htu.hsn + BitVec.ofNat 16 c.delay
  t = { s with scu := s.offered k (.agree tag target), sched := t.sched, links := t.links, out := [],
               plc := { s.plc with plan := plan ++ [⟨tag, .link c, some target, .peer, .agreed, 0⟩], draining := s.drainingAfter c } } ∧
  s.CapacityFollows t ∧ s.Raised (flagPlan ||| s.capacityFlag t) t

end Sys2Proof.Machine

/-- A LINK proposal (R85, R88, R89, R93) is declined for the first reason that applies, or agreed with a PEER AGREED entry at its
kind's target, its draining mark and an AGREE. At a FOLLOW end the local entries that it crosses give way, and tests 5 and 6 are made on
the plan without them: the proposal is declined for the first that applies, or agreed on that plan. A PROMOTE or REVERT of a carrier for
itself is counted as malformed and nothing else (R17). That a message can be taken without its frame is the model's choice (log 7). -/
def Obligations.LinkProposalIsAnswered : Prop :=
  ∀ (k : CarrierId) (tag : Tag) (change : LinkChange) (s : State), s.steady →
    let c := s.readChange change
    let rest := s.plc.plan.filter fun e => !s.crosses c e
    let uncrossed : State := { s with plc := { s.plc with plan := rest } }
    (changeOk change = false → Completes (.proposeLink k tag change) s fun t =>
      t = { s with scu := s.scu.modify k (fun y => { y with errors := satSucc32 y.errors }), out := [] }) ∧
    (∀ r, changeOk change = true → s.linkReason c = some r → (s.settings.endRole = .lead ∨ r ≠ .superseded) →
      Completes (.proposeLink k tag change) s fun t => t = { s with scu := s.offered k (.decline tag r), out := [] }) ∧
    (changeOk change = true → s.linkReason c = none → s.capacityLaw →
      Completes (.proposeLink k tag change) s fun t => s.LinkAgreed t k tag c s.plc.plan) ∧
    (changeOk change = true → s.linkReason c = some .superseded → s.settings.endRole = .follow → s.capacityLaw →
      Completes (.proposeLink k tag change) s fun t => rest ≠ s.plc.plan ∧
        (∀ r, uncrossed.lateReason c = some r →
          t = { s with plc := { s.plc with plan := rest }, scu := s.offered k (.decline tag r), links := t.links, out := [] } ∧
          s.Raised flagPlan t) ∧
        (uncrossed.lateReason c = none → s.LinkAgreed t k tag c rest))

/-- AGREE (R17, R90): a target more than 8 superframes ahead is counted as malformed; one without a LOCAL PROPOSED entry of its tag
is ignored; otherwise the entry is AGREED at the target, with its draining mark, and a LINK entry whose target is the current superframe
is applied at once (R97), with the effect of its kind, and gone. DECLINE (R91, R71, R128): the LOCAL PROPOSED entry of the tag is
removed; the unit of a LINK entry is backed off for 16 boundaries unless the reason is SUPERSEDED; a unit in PROPOSING returns to STEADY.
Without such an entry the DECLINE is ignored. That a message can be taken without its frame is the model's choice (log 7). -/
def Obligations.AnswerSettlesTheProposal : Prop :=
  (∀ (k : CarrierId) (tag : Tag) (target : Hsn) (s : State), s.steady →
    (8 < (target - s.htu.hsn).toNat → Completes (.agree k tag target) s fun t =>
      t = { s with scu := s.scu.modify k (fun y => { y with errors := satSucc32 y.errors }), out := [] }) ∧
    ((target - s.htu.hsn).toNat ≤ 8 → s.proposedEntry tag = none → Completes (.agree k tag target) s fun t =>
      t = { s with out := [] }) ∧
    (∀ e, s.proposedEntry tag = some e → (target - s.htu.hsn).toNat ≤ 8 → s.capacityLaw → Completes (.agree k tag target) s fun t =>
      (e.isRx = true ∨ target ≠ s.htu.hsn →
        t = { s with sched := t.sched, links := t.links, out := [],
                     plc := { s.plc with
                       plan := s.plc.plan.map (fun x => if x.tag == tag && x.origin == .local && x.state == .proposed then
                         { x with target := some target, state := .agreed } else x),
                       draining := match e.change with
                         | .link c => s.drainingAfter c
                         | .txProfile _ _ => s.plc.draining
                         | .rxProfile _ _ => s.plc.draining } } ∧
        s.CapacityFollows t ∧ s.Raised ((if e.isRx then 0 else flagPlan) ||| s.capacityFlag t) t) ∧
      (∀ c, e.change = .link c → target = s.htu.hsn →
        ({ e with target := some target, state := .agreed } : Entry) ∉ t.plc.plan) ∧
      (∀ c, e.change = .link c → target = s.htu.hsn → s.htu.anchor = s.lowestLocked →
        (∀ j, c = .park j → s.ParkApplied t j) ∧ (∀ j, c = .wake j → s.WakeApplied t j) ∧
        (∀ j d, c = .promote j d → s.PromoteApplied t j d) ∧ (∀ j d, c = .revert j d → s.RevertApplied t j d)) ∧
      (∀ c, e.change = .link c → ∀ j, (t.links.get j).raised &&& flagPlan = flagPlan))) ∧
  (∀ (k : CarrierId) (tag : Tag) (r : DeclineReason) (s : State), s.steady →
    (s.proposedEntry tag = none → Completes (.decline k tag r) s fun t => t = { s with out := [] }) ∧
    (∀ e, s.proposedEntry tag = some e → s.capacityLaw → Completes (.decline k tag r) s fun t =>
      let goes := fun x : Entry => x.tag == tag && x.origin == .local && x.state == .proposed
      t = { s with plc := { s.plc with plan := s.plc.plan.filter fun x => !goes x },
                   ade := t.ade, cpm := { s.cpm with backoff := t.cpm.backoff }, links := t.links, out := [] } ∧
      s.Raised (s.planFlagOf goes) t ∧
      (∀ u q, e.change = .rxProfile u q → t.cpm = s.cpm ∧ ((s.ade.get u).state = .proposing → (t.ade.get u).state = .steady)) ∧
      (∀ c, e.change = .link c → ∀ u, s.unitOfChange e.change = some u →
        t.cpm.backoff = if r = .superseded then s.cpm.backoff else s.cpm.backoff.set u 16)))

namespace Sys2Proof.Machine

/-- The level of carrier `c` after a power ask, and the result (R113, R114). -/
def State.askRule (s : State) (c : CarrierId) (d : Int) : Nat × PowerResult :=
  let l := s.pbu.level.get c
  let g := min d.toNat (min (s.figures.cap - l) (s.figures.budget - s.budgetInUse))
  if d < 0 then (((l : Int) + d).toNat, .granted)
  else if s.pbu.settling then (l, .mode)
  else if s.link c ≠ .acquire ∧ s.link c ≠ .locked then (l, .budget)
  else if s.figures.cap ≤ l then (l, .cap)
  else if g = 0 then (l, .budget)
  else (l + g, .granted)

end Sys2Proof.Machine

/-- POWER_ASK (R112, R113, R114, R104): the level changes by the rule, SET_LEVEL is sent to a powered modem when it does, and the
POWER_SET is offered on the carrier on which the ask came. A decrease is always granted and frees its budget units. An ask of a delta out
of its range is counted as malformed and nothing else (R17). That a message can be taken without its frame is the model's choice
(log 7). -/
def Obligations.PowerAskIsAnswered : Prop :=
  ∀ (k c : CarrierId) (tag : Tag) (d : Int) (s : State), s.steady →
    let inRange := (-3 ≤ d ∧ d ≤ -1) ∨ (1 ≤ d ∧ d ≤ 8)
    (¬inRange → Completes (.powerAsk k tag c d) s fun t =>
      t = { s with scu := s.scu.modify k (fun y => { y with errors := satSucc32 y.errors }), out := [] }) ∧
    (inRange → Completes (.powerAsk k tag c d) s fun t =>
      let r := s.askRule c d
      t = { s with pbu := { s.pbu with level := s.pbu.level.set c r.1 }, scu := s.offered k (.powerSet (some tag) c r.1 r.2),
                   out := if r.1 ≠ s.pbu.level.get c ∧ s.link c ≠ .down then [.modem c (.setLevel r.1)] else [] } ∧
      (d < 0 → r.2 = .granted ∧ r.1 = s.pbu.level.get c - d.natAbs ∧
        (s.link c = .acquire ∨ s.link c = .locked → t.budgetInUse + (s.pbu.level.get c - r.1) = s.budgetInUse)))

/-- POWER_SET (R17, R60, R68, R70): one out of range, or without a tag and with another result than MODE, is counted as malformed;
otherwise the view takes the level, and the unit whose ask it answers is STEADY without an ask, with the peer-at-cap mark set unless
the ask was granted. That a message can be taken without its frame is the model's choice (log 7). -/
def Obligations.PowerSetEndsTheAsk : Prop :=
  ∀ (k c : CarrierId) (tag : Option Tag) (n : Nat) (r : PowerResult) (s : State), s.steady →
    let view := { s.peer with level := s.peer.level.set c (some n) }
    let asks := fun u => ∃ a, (s.ade.get u).ask = some a ∧ tag = some a.tag ∧ a.carrier = c
    ((15 < n ∨ (tag = none ∧ r ≠ .mode)) → Completes (.powerSet k tag c n r) s fun t =>
      t = { s with scu := s.scu.modify k (fun y => { y with errors := satSucc32 y.errors }), out := [] }) ∧
    (¬(15 < n ∨ (tag = none ∧ r ≠ .mode)) → (∀ u, ¬asks u) → Completes (.powerSet k tag c n r) s fun t =>
      t = { s with peer := view, out := [] }) ∧
    (∀ u b, ¬(15 < n ∨ (tag = none ∧ r ≠ .mode)) → asks u → (∀ v, asks v → v = u) → (s.ade.get u).asked = some b →
      Completes (.powerSet k tag c n r) s fun t =>
        t = { s with peer := view, out := [], ade := s.ade.set u { s.ade.get u with
          ask := none, state := .steady,
          atCap := if r = .granted then (s.ade.get u).atCap else some (view.level.get b, view.cap.get b) } })

/-! ## The supply-state input -/

/-- A change of the supply-state lines sets the input state and the target mode at once (R106); a change of the target mode restarts
the debounce count, and the effective mode stays (R107). READ_POWER reports code and target (R194). That the event is taken before the
settings are in as well is the model's reading (log 20). -/
def Obligations.SupplyChangeSetsTheTarget : Prop :=
  ∀ (a b : Bool) (s : State), s.settled → Completes (.supplyStateChange a b) s fun t =>
    let target : Mode := if a then .survival else if b then .economy else .full
    t = { s with out := [], pbu := { s.pbu with lineA := a, lineB := b, target := target,
                                                debounce := if target = s.pbu.target then s.pbu.debounce else 0 } } ∧
    t.powerRecord.take 2 = [(if a then 2 else 0) + (if b then 1 else 0), if a then 2 else if b then 1 else 0]

/-! ## Tenant links -/

/-- LINK_UP makes a NOTICE waiting, which is started, where flags are raised and enabled (R186, R187, R193). LINK_DOWN discards what
was in progress or waiting, empties the command queue, arms the notice state, and flushes the egress buffer, each packet counted as
LINK_DOWN (R183, R186–R188, R193). Neither changes a link that is in that state already. That both are taken before the settings are
in as well is the model's reading (log 20), and that the NOTICE is started within the same step its choice (log 15). -/
def Obligations.LinkTransitions : Prop :=
  ∀ (j : TenantId) (s : State), s.settled →
    let x := s.links.get j
    let n := (s.rxa.egress.get j).length
    (x.up = true → Completes (.linkUp j) s fun t => t = { s with out := [] }) ∧
    (x.up = false → x.tx = none → x.reply = none → x.notice = none → x.sent = false → s.rxa.egress.get j = [] →
      Completes (.linkUp j) s fun t =>
        t = { s with out := [], links := s.links.set j { x with
          up := true, sent := x.raised &&& x.mask != 0,
          tx := if x.raised &&& x.mask = 0 then none else some ⟨.notice, 0, [0xC0, x.raised &&& x.mask]⟩ } }) ∧
    (x.up = false → Completes (.linkDown j) s fun t => t = { s with out := [] }) ∧
    (x.up = true → x.counters.linkDown ≤ 4294967295 → Completes (.linkDown j) s fun t =>
      t = { s with out := [], rxa := { s.rxa with egress := s.rxa.egress.set j [] }, links := s.links.set j { x with
        up := false, tx := none, reply := none, notice := none, commands := [], sent := false,
        counters := { x.counters with linkDown := min (x.counters.linkDown + n) 4294967295 },
        raised := if n = 0 then x.raised else x.raised ||| flagDiscard } })

/-- A frame between delimiters (R186): lane, length, payload and check. -/
def Sys2Proof.Machine.goodFrame (lane : Nat) (payload bytes : List Byte) : Prop :=
  lane ≤ 31 ∧ 1 ≤ payload.length ∧ payload.length ≤ 2048 ∧
  bytes = BitVec.ofNat 8 lane :: bytes16 payload.length ++ payload ++
    bytes16 (crc16 (BitVec.ofNat 8 lane :: bytes16 payload.length ++ payload))

/-- TENANT_FRAME_RECEIVED (R186, R188): nothing arrives on a link that is DOWN, nor while 8 commands wait; a frame that fails the
frame check counts as LINK_ERROR; a good frame of lane 0 is a command and joins the queue. That a full command queue keeps every frame
out, those of traffic lanes too, is the model's reading of R188 (log 30). -/
def Obligations.TenantFrameIsChecked : Prop :=
  ∀ (j : TenantId) (bytes : List Byte) (s : State), s.steady →
    let x := s.links.get j
    let open_ := x.up = true ∧ x.commands.length < 8
    (¬open_ → Completes (.tenantFrameReceived j bytes) s fun t => t = { s with out := [] }) ∧
    (open_ → (∀ lane payload, ¬goodFrame lane payload bytes) → Completes (.tenantFrameReceived j bytes) s fun t =>
      t = { s with out := [], links := t.links } ∧ (∀ i, i ≠ j → t.links.get i = s.links.get i) ∧
      (t.links.get j).counters = { x.counters with linkError := satSucc32 x.counters.linkError } ∧
      (t.links.get j).raised = x.raised ||| flagDiscard) ∧
    (∀ payload, open_ → goodFrame 0 payload bytes → Completes (.tenantFrameReceived j bytes) s fun t =>
      t = { s with out := [], links := s.links.set j { x with commands := x.commands ++ [payload] } })

namespace Sys2Proof.Machine

/-- Where a packet of `u` buffer units of tenant `j` on a lane of class `c` is admitted (R162). -/
def State.roomFor (s : State) (j : TenantId) (c : LaneClass) (u : Nat) : Option Pool :=
  let size := 4096 - (s.settings.quota 0 + s.settings.quota 1 + s.settings.quota 2 + s.settings.quota 3)
  let bound := match c with
    | .assured => size
    | .elastic => 3 * size / 4
    | .bulk => size / 2
  if u + s.sched.reserveHeld.get j ≤ s.settings.quota j then some .reserve
  else if s.sched.sharedHeld + u ≤ bound then some .shared
  else none

/-- The counters of link `j` are `c`, other links are as before, and DISCARD is raised on `j` if `discard`. -/
def State.Counted (s t : State) (j : TenantId) (c : Counters) (discard : Bool) : Prop :=
  (t.links.get j).counters = c ∧ (∀ i, i ≠ j → t.links.get i = s.links.get i) ∧
  (t.links.get j).raised = (s.links.get j).raised ||| (if discard then flagDiscard else 0)

/-- The unit that the binding rule chooses for an unbound lane with entry `e` (R166): eligible, in service, its staging below target,
the lowest-numbered of these. -/
def State.Chooses (s : State) (e : LaneEntry) (u : UnitId) : Prop :=
  let fits := fun v => v ∈ s.eligibleUnits e.eligible ∧ s.inService v = true ∧
    (s.sched.staging.get v).held < min (3 * s.settings.blocks (s.plc.txProfile.get v)) 256
  fits u ∧ ∀ v < u, ¬fits v

/-- The blocks of a packet staged whole on an empty lane, from sequence `seq` on (R149). -/
def packetBlocks (j : TenantId) (l : LaneIx) (seq : Seq) (id : Nat) (phase : Phase) (data : List Byte) : List Block :=
  let n := (data.length + 63) / 64
  (List.range n).map fun i =>
    let here := (data.drop (64 * i)).take 64
    ⟨j, l, seq + BitVec.ofNat 4 i, [⟨0, here.length, i == 0, i + 1 == n, id, phase, here⟩]⟩

/-- The phase that takes a packet of `n` blocks (R145–R147): committed for an ASSURED or ELASTIC lane whose tenant's credit covers it,
else excess. -/
def phaseFor (c : LaneClass) (credit n : Nat) : Phase :=
  match c with
  | .assured => if n ≤ credit then .committedAssured else .excess
  | .elastic => if n ≤ credit then .committedElastic else .excess
  | .bulk => .excess

end Sys2Proof.Machine

/-- A traffic packet (R161–R163): LANE for a tenant not enrolled or an invalid lane, POOL without room, otherwise a record at the tail
of its lane queue that holds its units in the part of the pool it was admitted to, and PKT_IN. Where nothing else is to be staged, the
refill that follows stages it whole from an unbound lane without blocks, if a unit fits and has room: the lane is bound, the blocks
stand at the tail of its class's segment, and a committed phase charges the credit (R145–R149, R166). -/
def Obligations.TrafficIsAdmittedOrDiscarded : Prop :=
  ∀ (j : TenantId) (l : LaneIx) (payload bytes : List Byte) (s : State), s.steady → (s.links.get j).up = true →
    (s.links.get j).commands.length < 8 → goodFrame (l.val + 1) payload bytes →
    let z := s.sched.lane j l
    let x := s.links.get j
    let u := (payload.length + 63) / 64
    let taken := s.settings.enrolled j = true ∧ z.written.valid = true
    (¬taken → Completes (.tenantFrameReceived j bytes) s fun t =>
      t = { s with out := [], links := t.links } ∧ s.Counted t j { x.counters with lane := satSucc32 x.counters.lane } true) ∧
    (taken → s.roomFor j z.governing.cls u = none → Completes (.tenantFrameReceived j bytes) s fun t =>
      t = { s with out := [], links := t.links } ∧ s.Counted t j { x.counters with pool := satSucc32 x.counters.pool } true) ∧
    (∀ p, s.roomFor j z.governing.cls u = some p → taken → Completes (.tenantFrameReceived j bytes) s fun t =>
      t = { s with out := [], sched := t.sched, links := t.links } ∧
      s.Counted t j { x.counters with pktIn := satSucc32 x.counters.pktIn } false ∧
      t.sched.reserveHeld = (if p = .reserve then s.sched.reserveHeld.modify j (· + u) else s.sched.reserveHeld) ∧
      t.sched.sharedHeld = (if p = .shared then s.sched.sharedHeld + u else s.sched.sharedHeld) ∧
      (t.sched.lane j l).queue.length = z.queue.length + 1 ∧
      (∃ r, (t.sched.lane j l).queue.getLast? = some r ∧ r.data = payload ∧ r.pool = p ∧ r.sent = 0 ∧ r.arrival = s.htu.hsn) ∧
      (∀ v, s.nothingToStage → s.accountLaw → z.bound = none → (∀ w, (s.sched.staging.get w).holdsLane j l = false) →
        s.Chooses z.written v → (s.sched.staging.get v).held + u ≤ 256 → 1 ≤ s.settings.weight j →
        let c := s.sched.credit.get j
        let phase := phaseFor z.written.cls c u
        let new := packetBlocks j l z.seq s.sched.nextPkt phase payload
        t.sched.lane j l = { z with queue := z.queue ++ [⟨s.sched.nextPkt, payload, p, payload.length, 0, s.htu.hsn⟩],
                                    bound := some ⟨v, z.written⟩, emptyMark := false, timer := 0, seq := z.seq + BitVec.ofNat 4 u } ∧
        t.sched.staging = s.sched.staging.modify v (fun g =>
          if z.written.cls = .assured then { g with assured := g.assured ++ new } else { g with other := g.other ++ new }) ∧
        t.sched.credit = (if phase = .excess then s.sched.credit else s.sched.credit.set j (c - u))))

/-- TENANT_FRAME_SENT (R182, R187): the frame has left the link; a delivered packet leaves the egress buffer and counts as PKT_OUT;
the transmitter starts the waiting reply, else the waiting NOTICE, else the next packet. That the event changes nothing on a free
transmitter is the model's reading (log 11), and that a free transmitter starts within the same step its choice (log 15). -/
def Obligations.SentFrameStartsTheNext : Prop :=
  ∀ (j : TenantId) (s : State), s.steady → (s.links.get j).up = true →
    let x := s.links.get j
    let next := fun (egress : List EgressPacket) (y : Tli) =>
      (∀ p, x.reply = some p → y.tx = some ⟨.reply, 0, p⟩ ∧ y.reply = none ∧ y.notice = x.notice) ∧
      (∀ p, x.notice = some p → x.reply = none → y.tx = some ⟨.notice, 0, p⟩ ∧ y.notice = none) ∧
      (∀ e rest, egress = e :: rest → x.reply = none → x.notice = none → y.tx = some ⟨.egress, e.lane.val + 1, e.data⟩) ∧
      (x.reply = none → x.notice = none → egress = [] → y.tx = none)
    (x.tx = none → Completes (.tenantFrameSent j) s fun t => t = { s with out := [] }) ∧
    (∀ f, x.tx = some f → Completes (.tenantFrameSent j) s fun t =>
      t.out = [.linkFrame j (linkFrameBytes f.lane f.payload)] ∧ next (t.rxa.egress.get j) (t.links.get j) ∧
      (f.kind ≠ .egress → t.rxa = s.rxa ∧ (t.links.get j).counters = x.counters) ∧
      (f.kind = .egress → t.rxa = { s.rxa with egress := s.rxa.egress.modify j List.tail } ∧
        (t.links.get j).counters = { x.counters with pktOut := satSucc32 x.counters.pktOut }) ∧
      t.links.get j = { x with tx := (t.links.get j).tx, reply := (t.links.get j).reply, notice := (t.links.get j).notice,
                               counters := (t.links.get j).counters } ∧
      t = { s with links := s.links.set j (t.links.get j), rxa := t.rxa, out := t.out })

/-! ## Tenant commands -/

/-- The read commands (R188–R190, R194): each is answered OK with its record as the state stands, and changes nothing beside the
link's reply, transmitter and queue; READ_PLAN and READ_LANE draw free values for absent fields alone (log 6). When a command row
takes a command (log 8), and that a free transmitter starts the reply within the same step (log 15), is the model's choice. -/
def Obligations.ReadCommandsReply : Prop :=
  ∀ (j : TenantId) (rest : List (List Byte)) (s : State),
    (∀ k : CarrierId, s.TakesCommand j 0x01 [BitVec.ofNat 8 k.val] rest →
      Completes (.readCarrier j [BitVec.ofNat 8 k.val]) s fun t =>
        s.AnsweredOnly t j rest ([0x81, 0] ++ s.carrierRecord k) ∧ t.freeCount = s.freeCount) ∧
    (∀ k : CarrierId, s.TakesCommand j 0x02 [BitVec.ofNat 8 k.val] rest →
      Completes (.readTrace j [BitVec.ofNat 8 k.val]) s fun t =>
        s.AnsweredOnly t j rest ([0x82, 0, BitVec.ofNat 8 (s.ftr.get k).ring.length] ++ (s.ftr.get k).ring.flatMap RingEntry.bytes) ∧
        t.freeCount = s.freeCount) ∧
    (s.TakesCommand j 0x03 [] rest → Completes (.readPlan j []) s fun t =>
      s.AnsweredOnly t j rest ([0x83, 0] ++ s.planRecord.1) ∧
      ((∀ e ∈ s.plc.plan, e.target.isSome = true) → t.freeCount = s.freeCount)) ∧
    (s.TakesCommand j 0x04 [] rest → Completes (.readCapacity j []) s fun t =>
      s.AnsweredOnly t j rest ([0x84, 0] ++ s.capacityRecord j) ∧ t.freeCount = s.freeCount) ∧
    (s.TakesCommand j 0x05 [] rest → Completes (.readPower j []) s fun t =>
      s.AnsweredOnly t j rest ([0x85, 0] ++ s.powerRecord) ∧ t.freeCount = s.freeCount) ∧
    (s.TakesCommand j 0x06 [] rest → Completes (.readProvision j []) s fun t =>
      s.AnsweredOnly t j rest ([0x86, 0] ++ s.settings.record) ∧ t.freeCount = s.freeCount) ∧
    (∀ l : LaneIx, s.TakesCommand j 0x10 [BitVec.ofNat 8 (l.val + 1)] rest →
      Completes (.readLane j [BitVec.ofNat 8 (l.val + 1)]) s fun t =>
        s.AnsweredOnly t j rest ([0x90, 0] ++ ((s.sched.lane j l).record s.freeCount).1) ∧
        ((s.sched.lane j l).queue ≠ [] → t.freeCount = s.freeCount)) ∧
    (s.TakesCommand j 0x18 [] rest → Completes (.readCounters j []) s fun t =>
      s.AnsweredOnly t j rest ([0x98, 0] ++ (s.links.get j).counters.bytes) ∧ t.freeCount = s.freeCount) ∧
    (s.TakesCommand j 0x21 [] rest → Completes (.readNotices j []) s fun t =>
      s.AnsweredOnly t j rest [0xA1, 0, (s.links.get j).raised, (s.links.get j).mask] ∧ t.freeCount = s.freeCount)

/-- The commands that write one thing (R158, R190, R195): WRITE_LANE replaces the written entry whole and leaves the in-force copy;
SET_HOLD sets the hold of an enrolled tenant; CLEAR_COUNTERS sets the tenant's counters to 0. When a command row takes a command
(log 8), and that a free transmitter starts the reply within the same step (log 15), is the model's choice. -/
def Obligations.WriteCommandsWrite : Prop :=
  ∀ (j : TenantId) (rest : List (List Byte)) (s : State),
    (∀ (l : LaneIx) (e : LaneEntry), 1 ≤ e.limit → e.limit ≤ 255 → (∃ k, e.eligible.get k = true) →
      s.TakesCommand j 0x11 (BitVec.ofNat 8 (l.val + 1) :: e.bytes) rest →
      Completes (.writeLane j (BitVec.ofNat 8 (l.val + 1) :: e.bytes)) s fun t =>
        t.sched = s.sched.setLane j l (fun z => { z with written := e }) ∧ t.freeCount = s.freeCount ∧
        s.AnsweredOnly { t with sched := s.sched } j rest [0x91, 0]) ∧
    (∀ n : Nat, n ≤ 4 → s.TakesCommand j 0x12 [BitVec.ofNat 8 n] rest →
      Completes (.setHold j [BitVec.ofNat 8 n]) s fun t =>
        t.cpm = (if s.settings.enrolled j then { s.cpm with hold := s.cpm.hold.set j n } else s.cpm) ∧
        t.freeCount = s.freeCount ∧ s.AnsweredOnly { t with cpm := s.cpm } j rest [0x92, 0]) ∧
    (s.TakesCommand j 0x19 [] rest → Completes (.clearCounters j []) s fun t =>
      (t.links.get j).counters = ⟨0, 0, 0, 0, 0, 0, 0, 0, 0, 0, 0⟩ ∧
      (s.links.get j).Replies (t.links.get j) [0x99, 0] ∧
      t = { s with out := [], links := s.links.set j { s.links.get j with
        commands := rest, counters := (t.links.get j).counters, reply := (t.links.get j).reply, tx := (t.links.get j).tx } })

/-- The notice commands (R190, R193): SET_NOTICE_MASK replaces the mask, and an enabled set that is not empty makes a NOTICE of an
armed link; CLEAR_NOTICES lowers the flags named; an enabled set that becomes empty arms the link and withdraws a waiting NOTICE.
When a command row takes a command (log 8), and that a free transmitter starts the reply within the same step (log 15), is the model's
choice. -/
def Obligations.NoticeCommandsMoveTheNoticeState : Prop :=
  ∀ (j : TenantId) (m : Byte) (rest : List (List Byte)) (s : State), m.getLsbD 7 = false →
    let x := s.links.get j
    (s.TakesCommand j 0x20 [m] rest → Completes (.setNoticeMask j [m]) s fun t =>
      let y := t.links.get j
      y.mask = m ∧ y.raised = x.raised ∧ y.sent = (x.raised &&& m != 0) ∧
      (x.sent = false → x.raised &&& m ≠ 0 → y.notice = some [0xC0, x.raised &&& m]) ∧
      (x.sent = true → x.raised &&& m ≠ 0 → y.notice = x.notice) ∧ (x.sent = true → x.raised &&& m = 0 → y.notice = none) ∧
      x.Replies y [0xA0, 0] ∧ y.commands = rest ∧ y.counters = x.counters ∧ y.up = true ∧
      t = { s with out := [], links := s.links.set j y }) ∧
    (s.TakesCommand j 0x22 [m] rest → Completes (.clearNotices j [m]) s fun t =>
      let y := t.links.get j
      y.mask = x.mask ∧ y.raised = x.raised &&& ~~~m ∧ y.sent = (x.sent && (y.raised &&& x.mask != 0)) ∧
      (x.sent = true → y.sent = false → y.notice = none) ∧ (x.sent = y.sent → y.notice = x.notice) ∧
      x.Replies y [0xA2, 0] ∧ y.commands = rest ∧ y.counters = x.counters ∧ y.up = true ∧
      t = { s with out := [], links := s.links.set j y })

namespace Sys2Proof.Machine

/-- Blocks as (tenant, lane, sequence). -/
def blockNames (bs : List Block) : List (TenantId × LaneIx × Seq) := bs.map fun b => (b.tenant, b.lane, b.seq)

/-- A lane's sequence counter at its tenant's reset (R150, R155): one past the first block removed from a segment; one on where it
lost only blocks of an open pair frame record, or held a packet partly sent (log 17); else as it was. -/
def State.SequenceBroken (s t : State) (j : TenantId) (l : LaneIx) : Prop :=
  let z := s.sched.lane j l
  let y := t.sched.lane j l
  let inUnit := fun u => ((s.sched.staging.get u).assured ++ (s.sched.staging.get u).other).filter fun b => b.tenant == j && b.lane == l
  let loses := (∃ u, (s.sched.staging.get u).holdsLane j l = true) ∨ ∃ p ∈ z.queue, 0 < p.sent
  (∀ u b, (inUnit u).head? = some b → (∀ v, v ≠ u → inUnit v = []) → y.seq = b.seq + 1) ∧
  ((∀ u, inUnit u = []) → y.seq = if loses then z.seq + 1 else z.seq)

end Sys2Proof.Machine

/-- RESET_TENANT (R155, R172, R184, R196): the tenant's lanes are empty and unbound with their written entries kept and their
sequences broken, its units, lane pointers, egress buffer, ways, hold, counters and flags are cleared, an egress packet being sent is
cut off, and the command is answered. The blocks, packets and ways of other tenants stay in their order, C stands, and no credit
rises; beyond that the stagings and lanes of other tenants move only by the refill that follows where a lane of the tenant was bound
(R145): where none was, the scheduler changes in nothing but the tenant's own parts. How the sequences stand broken and that the refill
needs a lane that was bound are the model's choice (log 17). Settings, plan, carriers, adaptation, power and
the other tenants' links are as before. When a command row takes a command (log 8), and that a free transmitter starts the reply within
the same step (log 15), is the model's choice. -/
def Obligations.ResetTenantClearsTheTenant : Prop :=
  ∀ (j : TenantId) (rest : List (List Byte)) (s : State), s.TakesCommand j 0x30 [] rest → (s.links.get j).mask.getLsbD 7 = false →
    Completes (.resetTenant j []) s fun t =>
      let x := s.links.get j
      let y := t.links.get j
      let others := fun bs : List Block => bs.filter (·.tenant ≠ j)
      let shared := (laneIds.map fun l => ((s.sched.lane j l).queue.map fun p =>
        if p.pool = .shared then ceilDiv p.data.length 64 else 0).sum).sum
      (∀ l, (t.sched.lane j l).queue = [] ∧ (t.sched.lane j l).bound = none ∧ (t.sched.lane j l).timer = 0 ∧
        (t.sched.lane j l).emptyMark = false ∧ (t.sched.lane j l).written = (s.sched.lane j l).written ∧ s.SequenceBroken t j l) ∧
      (∀ u l, (t.sched.staging.get u).holdsLane j l = false) ∧
      (∀ i, i ≠ j → ∀ l, (t.sched.lane i l).written = (s.sched.lane i l).written ∧
        (t.sched.lane i l).queue.map (fun p => { p with staged := 0 }) = (s.sched.lane i l).queue.map (fun p => { p with staged := 0 })) ∧
      (∀ u, blockNames (others (s.sched.staging.get u).assured) <+: blockNames (t.sched.staging.get u).assured ∧
        blockNames (others (s.sched.staging.get u).other) <+: blockNames (t.sched.staging.get u).other ∧
        (t.sched.staging.get u).record = (s.sched.staging.get u).record.map fun r =>
          { r with blocks := r.blocks.map fun b => b.filter (·.tenant ≠ j) }) ∧
      t.sched.reserveHeld = s.sched.reserveHeld.set j 0 ∧ t.sched.sharedHeld = s.sched.sharedHeld - shared ∧
      t.sched.lanePtr.get j = ⟨0, 0, 0⟩ ∧ t.sched.capacity = s.sched.capacity ∧ t.sched.renewal = s.sched.renewal ∧
      (∀ i, t.sched.credit.get i ≤ s.sched.credit.get i) ∧ t.sched.credit.get j = s.sched.credit.get j ∧
      ((∀ l, (s.sched.lane j l).bound = none) →
        t.sched = { s.sched with lanes := t.sched.lanes, staging := t.sched.staging, lanePtr := s.sched.lanePtr.set j ⟨0, 0, 0⟩,
                                 reserveHeld := t.sched.reserveHeld, sharedHeld := t.sched.sharedHeld } ∧
        (∀ i, i ≠ j → ∀ l, t.sched.lane i l = s.sched.lane i l) ∧
        ∀ u, (t.sched.staging.get u).assured = others (s.sched.staging.get u).assured ∧
          (t.sched.staging.get u).other = others (s.sched.staging.get u).other) ∧
      t.rxa.egress = s.rxa.egress.set j [] ∧ t.rxa.hold = s.rxa.hold ∧
      (∀ i : Fin 16, t.rxa.sets[i.val].lru1 = s.rxa.sets[i.val].lru1 ∧
        ∀ w, t.rxa.sets[i.val].way w = (s.rxa.sets[i.val].way w).filter (·.tenant ≠ j)) ∧
      t.cpm = { s.cpm with hold := s.cpm.hold.set j 0 } ∧
      y.counters = ⟨0, 0, 0, 0, 0, 0, 0, 0, 0, 0, 0⟩ ∧ y.raised &&& 0x7F = 0 ∧ y.mask = x.mask ∧ y.sent = false ∧
      y.commands = rest ∧ y.up = true ∧
      (x.sendsEgress = true → t.out = [.linkCut j] ∧ y.tx = some ⟨.reply, 0, [0xB0, 0]⟩) ∧
      (x.sendsEgress = false → t.out = [] ∧ x.Replies y [0xB0, 0]) ∧
      t = { s with sched := t.sched, rxa := t.rxa, cpm := t.cpm, links := s.links.set j y, out := t.out }

/-- A command whose status is not OK changes nothing and carries no data (R188, R189): BAD_COMMAND for an unknown code, BAD_LENGTH
for a wrong length, BAD_INDEX for a carrier above 3 or a lane of 0 or above 31, BAD_VALUE for a hold above 4 or bit 7 of a mask.
When a command row takes a command (log 8), and that a free transmitter starts the reply within the same step (log 15), is the model's
choice. -/
def Obligations.BadCommandsChangeNothing : Prop :=
  ∀ (j : TenantId) (args : List Byte) (rest : List (List Byte)) (s : State),
    let bad := fun (c : Instr) (code : Byte) (status : Byte) => s.TakesCommand j code args rest →
      Completes c s fun t => s.AnsweredOnly t j rest [code ||| 0x80, status] ∧ t.freeCount = s.freeCount
    (∀ code, code ∉ commandCodes → bad (.unknownCommand j code args) code 1) ∧
    (args.length ≠ 1 → bad (.readCarrier j args) 0x01 2 ∧ bad (.readTrace j args) 0x02 2 ∧ bad (.readLane j args) 0x10 2 ∧
      bad (.setHold j args) 0x12 2 ∧ bad (.setNoticeMask j args) 0x20 2 ∧ bad (.clearNotices j args) 0x22 2) ∧
    (args.length ≠ 0 → bad (.readPlan j args) 0x03 2 ∧ bad (.readCapacity j args) 0x04 2 ∧ bad (.readPower j args) 0x05 2 ∧
      bad (.readProvision j args) 0x06 2 ∧ bad (.readCounters j args) 0x18 2 ∧ bad (.clearCounters j args) 0x19 2 ∧
      bad (.readNotices j args) 0x21 2 ∧ bad (.resetTenant j args) 0x30 2) ∧
    (args.length ≠ 4 → bad (.writeLane j args) 0x11 2) ∧
    (∀ b, args = [b] → (3 < b.toNat → bad (.readCarrier j args) 0x01 3 ∧ bad (.readTrace j args) 0x02 3) ∧
      (b.toNat = 0 ∨ 31 < b.toNat → bad (.readLane j args) 0x10 3) ∧ (4 < b.toNat → bad (.setHold j args) 0x12 4) ∧
      (128 ≤ b.toNat → bad (.setNoticeMask j args) 0x20 4 ∧ bad (.clearNotices j args) 0x22 4)) ∧
    (∀ n a b c, args = [n, a, b, c] → (n.toNat = 0 ∨ 31 < n.toNat → bad (.writeLane j args) 0x11 3) ∧
      (1 ≤ n.toNat → n.toNat ≤ 31 → 16 ≤ a.toNat ∨ a.toNat / 2 % 4 = 3 ∨ b = 0 ∨ 16 ≤ b.toNat ∨ c = 0 →
        bad (.writeLane j args) 0x11 4))

/-! ## Laws that every step keeps -/

/-- After any step of any state that satisfies it, the credit law holds (R143), and so the capacity law: C is the sum of the blocks per
frame over the units in service (R140). -/
def Obligations.StepKeepsCreditLaw : Prop :=
  (∀ s t : State, s.creditLaw → step s = .next t → t.creditLaw) ∧ ∀ s t : State, s.capacityLaw → step s = .next t → t.capacityLaw

/-- The level law and the budget law (R105). -/
def Obligations.StepKeepsPowerLaws : Prop :=
  ∀ s t : State, s.levelLaw → s.budgetLaw → step s = .next t → t.levelLaw ∧ t.budgetLaw

/-- The cache law (R178). -/
def Obligations.StepKeepsCacheLaw : Prop := ∀ s t : State, s.cacheLaw → step s = .next t → t.cacheLaw

/-- The egress law (R181), and the depths of the queues and rings (R15, R41, R188). -/
def Obligations.StepKeepsBufferLaws : Prop :=
  ∀ s t : State, s.egressLaw → s.depthLaw → step s = .next t → t.egressLaw ∧ t.depthLaw

/-- The bounds and the accounting of the buffer pool (R160, R163). -/
def Obligations.StepKeepsPoolLaws : Prop :=
  ∀ s t : State, s.poolLaw → s.accountLaw → step s = .next t → t.poolLaw ∧ t.accountLaw

/-- At most one TX_PROFILE, one RX_PROFILE and one LINK entry per unit (R79). -/
def Obligations.StepKeepsPlanLaw : Prop := ∀ s t : State, s.planLaw → step s = .next t → t.planLaw

/-- The anchor is the lowest-numbered LOCKED carrier whose role is not OFF (R6). -/
def Obligations.StepKeepsAnchorLaw : Prop := ∀ s t : State, s.anchorLaw → step s = .next t → t.anchorLaw

/-- A lane's blocks and continuations stand only in the staging of the unit to which it is bound (R144, R166, R167). -/
def Obligations.StepKeepsLaneLaw : Prop := ∀ s t : State, s.laneLaw → step s = .next t → t.laneLaw

/-- The part right after reset satisfies every law, with nothing waiting for a transmitter. -/
def Obligations.ResetSatisfiesTheLaws : Prop :=
  let s := State.reset
  s.settled ∧ s.creditLaw ∧ s.capacityLaw ∧ s.levelLaw ∧ s.budgetLaw ∧ s.egressLaw ∧ s.cacheLaw ∧ s.depthLaw ∧ s.poolLaw ∧ s.accountLaw ∧
  s.planLaw ∧ s.anchorLaw ∧ s.laneLaw
end

