-- ==== Sys2Proof/Laws/Four.lean ====
section
/-! SUPPORT. Reading and writing one of four. -/

namespace Sys2Proof

variable {α β : Type}

@[simp] theorem Four.get_of (x : α) (i : Fin 4) : (Four.of x).get i = x := by
  fin_cases i <;> rfl

@[simp] theorem Four.get_map (f : Four α) (g : α → β) (i : Fin 4) : (f.map g).get i = g (f.get i) := by
  fin_cases i <;> rfl

@[simp] theorem Four.get_build (g : Fin 4 → α) (i : Fin 4) : (Four.build g).get i = g i := by
  fin_cases i <;> rfl

theorem Four.get_set (f : Four α) (i j : Fin 4) (x : α) : (f.set i x).get j = if j = i then x else f.get j := by
  fin_cases i <;> fin_cases j <;> rfl

@[simp] theorem Four.get_set_self (f : Four α) (i : Fin 4) (x : α) : (f.set i x).get i = x := by
  rw [get_set, if_pos rfl]

theorem Four.get_set_of_ne (f : Four α) {i j : Fin 4} (x : α) (h : j ≠ i) : (f.set i x).get j = f.get j := by
  rw [get_set, if_neg h]

theorem Four.get_modify (f : Four α) (i j : Fin 4) (g : α → α) :
    (f.modify i g).get j = if j = i then g (f.get j) else f.get j := by
  fin_cases i <;> fin_cases j <;> rfl

@[simp] theorem Four.get_modify_self (f : Four α) (i : Fin 4) (g : α → α) : (f.modify i g).get i = g (f.get i) := by
  rw [get_modify, if_pos rfl]

theorem Four.get_modify_of_ne (f : Four α) {i j : Fin 4} (g : α → α) (h : j ≠ i) : (f.modify i g).get j = f.get j := by
  rw [get_modify, if_neg h]

/-- Two fours with the same four readings are the same. -/
theorem Four.ext_get {f g : Four α} (h : ∀ i, f.get i = g.get i) : f = g := by
  have h0 := h 0
  have h1 := h 1
  have h2 := h 2
  have h3 := h 3
  cases f
  cases g
  simp only [Four.get] at h0 h1 h2 h3
  subst h0 h1 h2 h3
  rfl

@[simp] theorem Four.set_get (f : Four α) (i : Fin 4) : f.set i (f.get i) = f := by
  fin_cases i <;> rfl

@[simp] theorem Four.modify_id (f : Four α) (i : Fin 4) : (f.modify i fun x => x) = f := by
  fin_cases i <;> rfl

theorem Four.sum_eq (f : Four Nat) : f.sum = f.get 0 + f.get 1 + f.get 2 + f.get 3 := rfl

@[simp] theorem mem_ids (i : Fin 4) : i ∈ ids := by
  fin_cases i <;> decide

/-- A statement about every number holds when it holds of the four. -/
theorem ids_all (p : Fin 4 → Bool) : ids.all p = true ↔ ∀ i, p i = true := by
  simp [List.all_eq_true]

theorem satSucc32_le (n : Nat) (h : n ≤ 4294967295) : satSucc32 n ≤ 4294967295 := by
  unfold satSucc32
  split <;> omega

theorem ceilDiv_le_of_le {a b c : Nat} (h : a ≤ c * b) (hb : 0 < b) : ceilDiv a b ≤ c := by
  unfold ceilDiv
  have : (a + b - 1) < (c + 1) * b := by
    rw [Nat.add_mul]
    omega
  have := Nat.div_lt_of_lt_mul (by rw [Nat.mul_comm]; exact this)
  omega

end Sys2Proof
end

