-- ==== Sys2Proof/Laws/State.lean ====
section
/-! SUPPORT. What each update of the state does to each field, by definition; so no proof unfolds a record update. -/

namespace Sys2Proof.Machine

/-! ### State.setClc -/

@[simp] theorem State.setClc_running (s : State) (k : CarrierId) (f : Clc → Clc) : (s.setClc k f).running = s.running := rfl
@[simp] theorem State.setClc_settings (s : State) (k : CarrierId) (f : Clc → Clc) : (s.setClc k f).settings = s.settings := rfl
@[simp] theorem State.setClc_htu (s : State) (k : CarrierId) (f : Clc → Clc) : (s.setClc k f).htu = s.htu := rfl
@[simp] theorem State.setClc_scu (s : State) (k : CarrierId) (f : Clc → Clc) : (s.setClc k f).scu = s.scu := rfl
@[simp] theorem State.setClc_clc (s : State) (k : CarrierId) (f : Clc → Clc) : (s.setClc k f).clc = s.clc.modify k f := rfl
@[simp] theorem State.setClc_ftr (s : State) (k : CarrierId) (f : Clc → Clc) : (s.setClc k f).ftr = s.ftr := rfl
@[simp] theorem State.setClc_ade (s : State) (k : CarrierId) (f : Clc → Clc) : (s.setClc k f).ade = s.ade := rfl
@[simp] theorem State.setClc_askTag (s : State) (k : CarrierId) (f : Clc → Clc) : (s.setClc k f).askTag = s.askTag := rfl
@[simp] theorem State.setClc_peer (s : State) (k : CarrierId) (f : Clc → Clc) : (s.setClc k f).peer = s.peer := rfl
@[simp] theorem State.setClc_plc (s : State) (k : CarrierId) (f : Clc → Clc) : (s.setClc k f).plc = s.plc := rfl
@[simp] theorem State.setClc_pbu (s : State) (k : CarrierId) (f : Clc → Clc) : (s.setClc k f).pbu = s.pbu := rfl
@[simp] theorem State.setClc_cpm (s : State) (k : CarrierId) (f : Clc → Clc) : (s.setClc k f).cpm = s.cpm := rfl
@[simp] theorem State.setClc_sched (s : State) (k : CarrierId) (f : Clc → Clc) : (s.setClc k f).sched = s.sched := rfl
@[simp] theorem State.setClc_rxa (s : State) (k : CarrierId) (f : Clc → Clc) : (s.setClc k f).rxa = s.rxa := rfl
@[simp] theorem State.setClc_links (s : State) (k : CarrierId) (f : Clc → Clc) : (s.setClc k f).links = s.links := rfl
@[simp] theorem State.setClc_due (s : State) (k : CarrierId) (f : Clc → Clc) : (s.setClc k f).due = s.due := rfl
@[simp] theorem State.setClc_out (s : State) (k : CarrierId) (f : Clc → Clc) : (s.setClc k f).out = s.out := rfl
@[simp] theorem State.setClc_freeCount (s : State) (k : CarrierId) (f : Clc → Clc) : (s.setClc k f).freeCount = s.freeCount := rfl
@[simp] theorem State.setClc_pending (s : State) (k : CarrierId) (f : Clc → Clc) : (s.setClc k f).pending = s.pending := rfl

/-! ### State.setAde -/

@[simp] theorem State.setAde_running (s : State) (u : UnitId) (f : Ade → Ade) : (s.setAde u f).running = s.running := rfl
@[simp] theorem State.setAde_settings (s : State) (u : UnitId) (f : Ade → Ade) : (s.setAde u f).settings = s.settings := rfl
@[simp] theorem State.setAde_htu (s : State) (u : UnitId) (f : Ade → Ade) : (s.setAde u f).htu = s.htu := rfl
@[simp] theorem State.setAde_scu (s : State) (u : UnitId) (f : Ade → Ade) : (s.setAde u f).scu = s.scu := rfl
@[simp] theorem State.setAde_clc (s : State) (u : UnitId) (f : Ade → Ade) : (s.setAde u f).clc = s.clc := rfl
@[simp] theorem State.setAde_ftr (s : State) (u : UnitId) (f : Ade → Ade) : (s.setAde u f).ftr = s.ftr := rfl
@[simp] theorem State.setAde_ade (s : State) (u : UnitId) (f : Ade → Ade) : (s.setAde u f).ade = s.ade.modify u f := rfl
@[simp] theorem State.setAde_askTag (s : State) (u : UnitId) (f : Ade → Ade) : (s.setAde u f).askTag = s.askTag := rfl
@[simp] theorem State.setAde_peer (s : State) (u : UnitId) (f : Ade → Ade) : (s.setAde u f).peer = s.peer := rfl
@[simp] theorem State.setAde_plc (s : State) (u : UnitId) (f : Ade → Ade) : (s.setAde u f).plc = s.plc := rfl
@[simp] theorem State.setAde_pbu (s : State) (u : UnitId) (f : Ade → Ade) : (s.setAde u f).pbu = s.pbu := rfl
@[simp] theorem State.setAde_cpm (s : State) (u : UnitId) (f : Ade → Ade) : (s.setAde u f).cpm = s.cpm := rfl
@[simp] theorem State.setAde_sched (s : State) (u : UnitId) (f : Ade → Ade) : (s.setAde u f).sched = s.sched := rfl
@[simp] theorem State.setAde_rxa (s : State) (u : UnitId) (f : Ade → Ade) : (s.setAde u f).rxa = s.rxa := rfl
@[simp] theorem State.setAde_links (s : State) (u : UnitId) (f : Ade → Ade) : (s.setAde u f).links = s.links := rfl
@[simp] theorem State.setAde_due (s : State) (u : UnitId) (f : Ade → Ade) : (s.setAde u f).due = s.due := rfl
@[simp] theorem State.setAde_out (s : State) (u : UnitId) (f : Ade → Ade) : (s.setAde u f).out = s.out := rfl
@[simp] theorem State.setAde_freeCount (s : State) (u : UnitId) (f : Ade → Ade) : (s.setAde u f).freeCount = s.freeCount := rfl
@[simp] theorem State.setAde_pending (s : State) (u : UnitId) (f : Ade → Ade) : (s.setAde u f).pending = s.pending := rfl

/-! ### State.setFtr -/

@[simp] theorem State.setFtr_running (s : State) (k : CarrierId) (f : Ftr → Ftr) : (s.setFtr k f).running = s.running := rfl
@[simp] theorem State.setFtr_settings (s : State) (k : CarrierId) (f : Ftr → Ftr) : (s.setFtr k f).settings = s.settings := rfl
@[simp] theorem State.setFtr_htu (s : State) (k : CarrierId) (f : Ftr → Ftr) : (s.setFtr k f).htu = s.htu := rfl
@[simp] theorem State.setFtr_scu (s : State) (k : CarrierId) (f : Ftr → Ftr) : (s.setFtr k f).scu = s.scu := rfl
@[simp] theorem State.setFtr_clc (s : State) (k : CarrierId) (f : Ftr → Ftr) : (s.setFtr k f).clc = s.clc := rfl
@[simp] theorem State.setFtr_ftr (s : State) (k : CarrierId) (f : Ftr → Ftr) : (s.setFtr k f).ftr = s.ftr.modify k f := rfl
@[simp] theorem State.setFtr_ade (s : State) (k : CarrierId) (f : Ftr → Ftr) : (s.setFtr k f).ade = s.ade := rfl
@[simp] theorem State.setFtr_askTag (s : State) (k : CarrierId) (f : Ftr → Ftr) : (s.setFtr k f).askTag = s.askTag := rfl
@[simp] theorem State.setFtr_peer (s : State) (k : CarrierId) (f : Ftr → Ftr) : (s.setFtr k f).peer = s.peer := rfl
@[simp] theorem State.setFtr_plc (s : State) (k : CarrierId) (f : Ftr → Ftr) : (s.setFtr k f).plc = s.plc := rfl
@[simp] theorem State.setFtr_pbu (s : State) (k : CarrierId) (f : Ftr → Ftr) : (s.setFtr k f).pbu = s.pbu := rfl
@[simp] theorem State.setFtr_cpm (s : State) (k : CarrierId) (f : Ftr → Ftr) : (s.setFtr k f).cpm = s.cpm := rfl
@[simp] theorem State.setFtr_sched (s : State) (k : CarrierId) (f : Ftr → Ftr) : (s.setFtr k f).sched = s.sched := rfl
@[simp] theorem State.setFtr_rxa (s : State) (k : CarrierId) (f : Ftr → Ftr) : (s.setFtr k f).rxa = s.rxa := rfl
@[simp] theorem State.setFtr_links (s : State) (k : CarrierId) (f : Ftr → Ftr) : (s.setFtr k f).links = s.links := rfl
@[simp] theorem State.setFtr_due (s : State) (k : CarrierId) (f : Ftr → Ftr) : (s.setFtr k f).due = s.due := rfl
@[simp] theorem State.setFtr_out (s : State) (k : CarrierId) (f : Ftr → Ftr) : (s.setFtr k f).out = s.out := rfl
@[simp] theorem State.setFtr_freeCount (s : State) (k : CarrierId) (f : Ftr → Ftr) : (s.setFtr k f).freeCount = s.freeCount := rfl
@[simp] theorem State.setFtr_pending (s : State) (k : CarrierId) (f : Ftr → Ftr) : (s.setFtr k f).pending = s.pending := rfl

/-! ### State.setLink -/

@[simp] theorem State.setLink_running (s : State) (t : TenantId) (f : Tli → Tli) : (s.setLink t f).running = s.running := rfl
@[simp] theorem State.setLink_settings (s : State) (t : TenantId) (f : Tli → Tli) : (s.setLink t f).settings = s.settings := rfl
@[simp] theorem State.setLink_htu (s : State) (t : TenantId) (f : Tli → Tli) : (s.setLink t f).htu = s.htu := rfl
@[simp] theorem State.setLink_scu (s : State) (t : TenantId) (f : Tli → Tli) : (s.setLink t f).scu = s.scu := rfl
@[simp] theorem State.setLink_clc (s : State) (t : TenantId) (f : Tli → Tli) : (s.setLink t f).clc = s.clc := rfl
@[simp] theorem State.setLink_ftr (s : State) (t : TenantId) (f : Tli → Tli) : (s.setLink t f).ftr = s.ftr := rfl
@[simp] theorem State.setLink_ade (s : State) (t : TenantId) (f : Tli → Tli) : (s.setLink t f).ade = s.ade := rfl
@[simp] theorem State.setLink_askTag (s : State) (t : TenantId) (f : Tli → Tli) : (s.setLink t f).askTag = s.askTag := rfl
@[simp] theorem State.setLink_peer (s : State) (t : TenantId) (f : Tli → Tli) : (s.setLink t f).peer = s.peer := rfl
@[simp] theorem State.setLink_plc (s : State) (t : TenantId) (f : Tli → Tli) : (s.setLink t f).plc = s.plc := rfl
@[simp] theorem State.setLink_pbu (s : State) (t : TenantId) (f : Tli → Tli) : (s.setLink t f).pbu = s.pbu := rfl
@[simp] theorem State.setLink_cpm (s : State) (t : TenantId) (f : Tli → Tli) : (s.setLink t f).cpm = s.cpm := rfl
@[simp] theorem State.setLink_sched (s : State) (t : TenantId) (f : Tli → Tli) : (s.setLink t f).sched = s.sched := rfl
@[simp] theorem State.setLink_rxa (s : State) (t : TenantId) (f : Tli → Tli) : (s.setLink t f).rxa = s.rxa := rfl
@[simp] theorem State.setLink_links (s : State) (t : TenantId) (f : Tli → Tli) : (s.setLink t f).links = s.links.modify t f := rfl
@[simp] theorem State.setLink_due (s : State) (t : TenantId) (f : Tli → Tli) : (s.setLink t f).due = s.due := rfl
@[simp] theorem State.setLink_out (s : State) (t : TenantId) (f : Tli → Tli) : (s.setLink t f).out = s.out := rfl
@[simp] theorem State.setLink_freeCount (s : State) (t : TenantId) (f : Tli → Tli) : (s.setLink t f).freeCount = s.freeCount := rfl
@[simp] theorem State.setLink_pending (s : State) (t : TenantId) (f : Tli → Tli) : (s.setLink t f).pending = s.pending := rfl

/-! ### State.setPlc -/

@[simp] theorem State.setPlc_running (s : State) (f : Plc → Plc) : (s.setPlc f).running = s.running := rfl
@[simp] theorem State.setPlc_settings (s : State) (f : Plc → Plc) : (s.setPlc f).settings = s.settings := rfl
@[simp] theorem State.setPlc_htu (s : State) (f : Plc → Plc) : (s.setPlc f).htu = s.htu := rfl
@[simp] theorem State.setPlc_scu (s : State) (f : Plc → Plc) : (s.setPlc f).scu = s.scu := rfl
@[simp] theorem State.setPlc_clc (s : State) (f : Plc → Plc) : (s.setPlc f).clc = s.clc := rfl
@[simp] theorem State.setPlc_ftr (s : State) (f : Plc → Plc) : (s.setPlc f).ftr = s.ftr := rfl
@[simp] theorem State.setPlc_ade (s : State) (f : Plc → Plc) : (s.setPlc f).ade = s.ade := rfl
@[simp] theorem State.setPlc_askTag (s : State) (f : Plc → Plc) : (s.setPlc f).askTag = s.askTag := rfl
@[simp] theorem State.setPlc_peer (s : State) (f : Plc → Plc) : (s.setPlc f).peer = s.peer := rfl
@[simp] theorem State.setPlc_plc (s : State) (f : Plc → Plc) : (s.setPlc f).plc = f s.plc := rfl
@[simp] theorem State.setPlc_pbu (s : State) (f : Plc → Plc) : (s.setPlc f).pbu = s.pbu := rfl
@[simp] theorem State.setPlc_cpm (s : State) (f : Plc → Plc) : (s.setPlc f).cpm = s.cpm := rfl
@[simp] theorem State.setPlc_sched (s : State) (f : Plc → Plc) : (s.setPlc f).sched = s.sched := rfl
@[simp] theorem State.setPlc_rxa (s : State) (f : Plc → Plc) : (s.setPlc f).rxa = s.rxa := rfl
@[simp] theorem State.setPlc_links (s : State) (f : Plc → Plc) : (s.setPlc f).links = s.links := rfl
@[simp] theorem State.setPlc_due (s : State) (f : Plc → Plc) : (s.setPlc f).due = s.due := rfl
@[simp] theorem State.setPlc_out (s : State) (f : Plc → Plc) : (s.setPlc f).out = s.out := rfl
@[simp] theorem State.setPlc_freeCount (s : State) (f : Plc → Plc) : (s.setPlc f).freeCount = s.freeCount := rfl
@[simp] theorem State.setPlc_pending (s : State) (f : Plc → Plc) : (s.setPlc f).pending = s.pending := rfl

/-! ### State.setBackoff -/

@[simp] theorem State.setBackoff_running (s : State) (u : UnitId) (n : Nat) : (s.setBackoff u n).running = s.running := rfl
@[simp] theorem State.setBackoff_settings (s : State) (u : UnitId) (n : Nat) : (s.setBackoff u n).settings = s.settings := rfl
@[simp] theorem State.setBackoff_htu (s : State) (u : UnitId) (n : Nat) : (s.setBackoff u n).htu = s.htu := rfl
@[simp] theorem State.setBackoff_scu (s : State) (u : UnitId) (n : Nat) : (s.setBackoff u n).scu = s.scu := rfl
@[simp] theorem State.setBackoff_clc (s : State) (u : UnitId) (n : Nat) : (s.setBackoff u n).clc = s.clc := rfl
@[simp] theorem State.setBackoff_ftr (s : State) (u : UnitId) (n : Nat) : (s.setBackoff u n).ftr = s.ftr := rfl
@[simp] theorem State.setBackoff_ade (s : State) (u : UnitId) (n : Nat) : (s.setBackoff u n).ade = s.ade := rfl
@[simp] theorem State.setBackoff_askTag (s : State) (u : UnitId) (n : Nat) : (s.setBackoff u n).askTag = s.askTag := rfl
@[simp] theorem State.setBackoff_peer (s : State) (u : UnitId) (n : Nat) : (s.setBackoff u n).peer = s.peer := rfl
@[simp] theorem State.setBackoff_plc (s : State) (u : UnitId) (n : Nat) : (s.setBackoff u n).plc = s.plc := rfl
@[simp] theorem State.setBackoff_pbu (s : State) (u : UnitId) (n : Nat) : (s.setBackoff u n).pbu = s.pbu := rfl
@[simp] theorem State.setBackoff_cpm (s : State) (u : UnitId) (n : Nat) : (s.setBackoff u n).cpm = { s.cpm with backoff := s.cpm.backoff.set u n } := rfl
@[simp] theorem State.setBackoff_sched (s : State) (u : UnitId) (n : Nat) : (s.setBackoff u n).sched = s.sched := rfl
@[simp] theorem State.setBackoff_rxa (s : State) (u : UnitId) (n : Nat) : (s.setBackoff u n).rxa = s.rxa := rfl
@[simp] theorem State.setBackoff_links (s : State) (u : UnitId) (n : Nat) : (s.setBackoff u n).links = s.links := rfl
@[simp] theorem State.setBackoff_due (s : State) (u : UnitId) (n : Nat) : (s.setBackoff u n).due = s.due := rfl
@[simp] theorem State.setBackoff_out (s : State) (u : UnitId) (n : Nat) : (s.setBackoff u n).out = s.out := rfl
@[simp] theorem State.setBackoff_freeCount (s : State) (u : UnitId) (n : Nat) : (s.setBackoff u n).freeCount = s.freeCount := rfl
@[simp] theorem State.setBackoff_pending (s : State) (u : UnitId) (n : Nat) : (s.setBackoff u n).pending = s.pending := rfl

/-! ### State.raiseAll -/

@[simp] theorem State.raiseAll_running (s : State) (b : BitVec 8) : (s.raiseAll b).running = s.running := rfl
@[simp] theorem State.raiseAll_settings (s : State) (b : BitVec 8) : (s.raiseAll b).settings = s.settings := rfl
@[simp] theorem State.raiseAll_htu (s : State) (b : BitVec 8) : (s.raiseAll b).htu = s.htu := rfl
@[simp] theorem State.raiseAll_scu (s : State) (b : BitVec 8) : (s.raiseAll b).scu = s.scu := rfl
@[simp] theorem State.raiseAll_clc (s : State) (b : BitVec 8) : (s.raiseAll b).clc = s.clc := rfl
@[simp] theorem State.raiseAll_ftr (s : State) (b : BitVec 8) : (s.raiseAll b).ftr = s.ftr := rfl
@[simp] theorem State.raiseAll_ade (s : State) (b : BitVec 8) : (s.raiseAll b).ade = s.ade := rfl
@[simp] theorem State.raiseAll_askTag (s : State) (b : BitVec 8) : (s.raiseAll b).askTag = s.askTag := rfl
@[simp] theorem State.raiseAll_peer (s : State) (b : BitVec 8) : (s.raiseAll b).peer = s.peer := rfl
@[simp] theorem State.raiseAll_plc (s : State) (b : BitVec 8) : (s.raiseAll b).plc = s.plc := rfl
@[simp] theorem State.raiseAll_pbu (s : State) (b : BitVec 8) : (s.raiseAll b).pbu = s.pbu := rfl
@[simp] theorem State.raiseAll_cpm (s : State) (b : BitVec 8) : (s.raiseAll b).cpm = s.cpm := rfl
@[simp] theorem State.raiseAll_sched (s : State) (b : BitVec 8) : (s.raiseAll b).sched = s.sched := rfl
@[simp] theorem State.raiseAll_rxa (s : State) (b : BitVec 8) : (s.raiseAll b).rxa = s.rxa := rfl
@[simp] theorem State.raiseAll_links (s : State) (b : BitVec 8) : (s.raiseAll b).links = s.links.map (·.raise b) := rfl
@[simp] theorem State.raiseAll_due (s : State) (b : BitVec 8) : (s.raiseAll b).due = s.due := rfl
@[simp] theorem State.raiseAll_out (s : State) (b : BitVec 8) : (s.raiseAll b).out = s.out := rfl
@[simp] theorem State.raiseAll_freeCount (s : State) (b : BitVec 8) : (s.raiseAll b).freeCount = s.freeCount := rfl
@[simp] theorem State.raiseAll_pending (s : State) (b : BitVec 8) : (s.raiseAll b).pending = s.pending := rfl

/-! ### State.count -/

@[simp] theorem State.count_running (s : State) (t : TenantId) (n : CounterName) : (s.count t n).running = s.running := rfl
@[simp] theorem State.count_settings (s : State) (t : TenantId) (n : CounterName) : (s.count t n).settings = s.settings := rfl
@[simp] theorem State.count_htu (s : State) (t : TenantId) (n : CounterName) : (s.count t n).htu = s.htu := rfl
@[simp] theorem State.count_scu (s : State) (t : TenantId) (n : CounterName) : (s.count t n).scu = s.scu := rfl
@[simp] theorem State.count_clc (s : State) (t : TenantId) (n : CounterName) : (s.count t n).clc = s.clc := rfl
@[simp] theorem State.count_ftr (s : State) (t : TenantId) (n : CounterName) : (s.count t n).ftr = s.ftr := rfl
@[simp] theorem State.count_ade (s : State) (t : TenantId) (n : CounterName) : (s.count t n).ade = s.ade := rfl
@[simp] theorem State.count_askTag (s : State) (t : TenantId) (n : CounterName) : (s.count t n).askTag = s.askTag := rfl
@[simp] theorem State.count_peer (s : State) (t : TenantId) (n : CounterName) : (s.count t n).peer = s.peer := rfl
@[simp] theorem State.count_plc (s : State) (t : TenantId) (n : CounterName) : (s.count t n).plc = s.plc := rfl
@[simp] theorem State.count_pbu (s : State) (t : TenantId) (n : CounterName) : (s.count t n).pbu = s.pbu := rfl
@[simp] theorem State.count_cpm (s : State) (t : TenantId) (n : CounterName) : (s.count t n).cpm = s.cpm := rfl
@[simp] theorem State.count_sched (s : State) (t : TenantId) (n : CounterName) : (s.count t n).sched = s.sched := rfl
@[simp] theorem State.count_rxa (s : State) (t : TenantId) (n : CounterName) : (s.count t n).rxa = s.rxa := rfl
@[simp] theorem State.count_links (s : State) (t : TenantId) (n : CounterName) : (s.count t n).links = s.links.modify t (·.count n) := rfl
@[simp] theorem State.count_due (s : State) (t : TenantId) (n : CounterName) : (s.count t n).due = s.due := rfl
@[simp] theorem State.count_out (s : State) (t : TenantId) (n : CounterName) : (s.count t n).out = s.out := rfl
@[simp] theorem State.count_freeCount (s : State) (t : TenantId) (n : CounterName) : (s.count t n).freeCount = s.freeCount := rfl
@[simp] theorem State.count_pending (s : State) (t : TenantId) (n : CounterName) : (s.count t n).pending = s.pending := rfl

/-! ### State.emit -/

@[simp] theorem State.emit_running (s : State) (o : Output) : (s.emit o).running = s.running := rfl
@[simp] theorem State.emit_settings (s : State) (o : Output) : (s.emit o).settings = s.settings := rfl
@[simp] theorem State.emit_htu (s : State) (o : Output) : (s.emit o).htu = s.htu := rfl
@[simp] theorem State.emit_scu (s : State) (o : Output) : (s.emit o).scu = s.scu := rfl
@[simp] theorem State.emit_clc (s : State) (o : Output) : (s.emit o).clc = s.clc := rfl
@[simp] theorem State.emit_ftr (s : State) (o : Output) : (s.emit o).ftr = s.ftr := rfl
@[simp] theorem State.emit_ade (s : State) (o : Output) : (s.emit o).ade = s.ade := rfl
@[simp] theorem State.emit_askTag (s : State) (o : Output) : (s.emit o).askTag = s.askTag := rfl
@[simp] theorem State.emit_peer (s : State) (o : Output) : (s.emit o).peer = s.peer := rfl
@[simp] theorem State.emit_plc (s : State) (o : Output) : (s.emit o).plc = s.plc := rfl
@[simp] theorem State.emit_pbu (s : State) (o : Output) : (s.emit o).pbu = s.pbu := rfl
@[simp] theorem State.emit_cpm (s : State) (o : Output) : (s.emit o).cpm = s.cpm := rfl
@[simp] theorem State.emit_sched (s : State) (o : Output) : (s.emit o).sched = s.sched := rfl
@[simp] theorem State.emit_rxa (s : State) (o : Output) : (s.emit o).rxa = s.rxa := rfl
@[simp] theorem State.emit_links (s : State) (o : Output) : (s.emit o).links = s.links := rfl
@[simp] theorem State.emit_due (s : State) (o : Output) : (s.emit o).due = s.due := rfl
@[simp] theorem State.emit_out (s : State) (o : Output) : (s.emit o).out = s.out ++ [o] := rfl
@[simp] theorem State.emit_freeCount (s : State) (o : Output) : (s.emit o).freeCount = s.freeCount := rfl
@[simp] theorem State.emit_pending (s : State) (o : Output) : (s.emit o).pending = s.pending := rfl

/-! ### State.command -/

@[simp] theorem State.command_running (s : State) (k : CarrierId) (c : ModemCommand) : (s.command k c).running = s.running := rfl
@[simp] theorem State.command_settings (s : State) (k : CarrierId) (c : ModemCommand) : (s.command k c).settings = s.settings := rfl
@[simp] theorem State.command_htu (s : State) (k : CarrierId) (c : ModemCommand) : (s.command k c).htu = s.htu := rfl
@[simp] theorem State.command_scu (s : State) (k : CarrierId) (c : ModemCommand) : (s.command k c).scu = s.scu := rfl
@[simp] theorem State.command_clc (s : State) (k : CarrierId) (c : ModemCommand) : (s.command k c).clc = s.clc := rfl
@[simp] theorem State.command_ftr (s : State) (k : CarrierId) (c : ModemCommand) : (s.command k c).ftr = s.ftr := rfl
@[simp] theorem State.command_ade (s : State) (k : CarrierId) (c : ModemCommand) : (s.command k c).ade = s.ade := rfl
@[simp] theorem State.command_askTag (s : State) (k : CarrierId) (c : ModemCommand) : (s.command k c).askTag = s.askTag := rfl
@[simp] theorem State.command_peer (s : State) (k : CarrierId) (c : ModemCommand) : (s.command k c).peer = s.peer := rfl
@[simp] theorem State.command_plc (s : State) (k : CarrierId) (c : ModemCommand) : (s.command k c).plc = s.plc := rfl
@[simp] theorem State.command_pbu (s : State) (k : CarrierId) (c : ModemCommand) : (s.command k c).pbu = s.pbu := rfl
@[simp] theorem State.command_cpm (s : State) (k : CarrierId) (c : ModemCommand) : (s.command k c).cpm = s.cpm := rfl
@[simp] theorem State.command_sched (s : State) (k : CarrierId) (c : ModemCommand) : (s.command k c).sched = s.sched := rfl
@[simp] theorem State.command_rxa (s : State) (k : CarrierId) (c : ModemCommand) : (s.command k c).rxa = s.rxa := rfl
@[simp] theorem State.command_links (s : State) (k : CarrierId) (c : ModemCommand) : (s.command k c).links = s.links := rfl
@[simp] theorem State.command_due (s : State) (k : CarrierId) (c : ModemCommand) : (s.command k c).due = s.due := rfl
@[simp] theorem State.command_out (s : State) (k : CarrierId) (c : ModemCommand) : (s.command k c).out = s.out ++ [.modem k c] := rfl
@[simp] theorem State.command_freeCount (s : State) (k : CarrierId) (c : ModemCommand) : (s.command k c).freeCount = s.freeCount := rfl
@[simp] theorem State.command_pending (s : State) (k : CarrierId) (c : ModemCommand) : (s.command k c).pending = s.pending := rfl

/-! ### State.offer -/

@[simp] theorem State.offer_running (s : State) (k : CarrierId) (m : Message) : (s.offer k m).running = s.running := rfl
@[simp] theorem State.offer_settings (s : State) (k : CarrierId) (m : Message) : (s.offer k m).settings = s.settings := rfl
@[simp] theorem State.offer_htu (s : State) (k : CarrierId) (m : Message) : (s.offer k m).htu = s.htu := rfl
@[simp] theorem State.offer_clc (s : State) (k : CarrierId) (m : Message) : (s.offer k m).clc = s.clc := rfl
@[simp] theorem State.offer_ftr (s : State) (k : CarrierId) (m : Message) : (s.offer k m).ftr = s.ftr := rfl
@[simp] theorem State.offer_ade (s : State) (k : CarrierId) (m : Message) : (s.offer k m).ade = s.ade := rfl
@[simp] theorem State.offer_askTag (s : State) (k : CarrierId) (m : Message) : (s.offer k m).askTag = s.askTag := rfl
@[simp] theorem State.offer_peer (s : State) (k : CarrierId) (m : Message) : (s.offer k m).peer = s.peer := rfl
@[simp] theorem State.offer_plc (s : State) (k : CarrierId) (m : Message) : (s.offer k m).plc = s.plc := rfl
@[simp] theorem State.offer_pbu (s : State) (k : CarrierId) (m : Message) : (s.offer k m).pbu = s.pbu := rfl
@[simp] theorem State.offer_cpm (s : State) (k : CarrierId) (m : Message) : (s.offer k m).cpm = s.cpm := rfl
@[simp] theorem State.offer_sched (s : State) (k : CarrierId) (m : Message) : (s.offer k m).sched = s.sched := rfl
@[simp] theorem State.offer_rxa (s : State) (k : CarrierId) (m : Message) : (s.offer k m).rxa = s.rxa := rfl
@[simp] theorem State.offer_links (s : State) (k : CarrierId) (m : Message) : (s.offer k m).links = s.links := rfl
@[simp] theorem State.offer_due (s : State) (k : CarrierId) (m : Message) : (s.offer k m).due = s.due := rfl
@[simp] theorem State.offer_out (s : State) (k : CarrierId) (m : Message) : (s.offer k m).out = s.out := rfl
@[simp] theorem State.offer_freeCount (s : State) (k : CarrierId) (m : Message) : (s.offer k m).freeCount = s.freeCount := rfl
@[simp] theorem State.offer_pending (s : State) (k : CarrierId) (m : Message) : (s.offer k m).pending = s.pending := rfl

/-! ### State.clearQueue -/

@[simp] theorem State.clearQueue_running (s : State) (k : CarrierId) : (s.clearQueue k).running = s.running := rfl
@[simp] theorem State.clearQueue_settings (s : State) (k : CarrierId) : (s.clearQueue k).settings = s.settings := rfl
@[simp] theorem State.clearQueue_htu (s : State) (k : CarrierId) : (s.clearQueue k).htu = s.htu := rfl
@[simp] theorem State.clearQueue_scu (s : State) (k : CarrierId) : (s.clearQueue k).scu = s.scu.modify k fun x => { x with queue := [] } := rfl
@[simp] theorem State.clearQueue_clc (s : State) (k : CarrierId) : (s.clearQueue k).clc = s.clc := rfl
@[simp] theorem State.clearQueue_ftr (s : State) (k : CarrierId) : (s.clearQueue k).ftr = s.ftr := rfl
@[simp] theorem State.clearQueue_ade (s : State) (k : CarrierId) : (s.clearQueue k).ade = s.ade := rfl
@[simp] theorem State.clearQueue_askTag (s : State) (k : CarrierId) : (s.clearQueue k).askTag = s.askTag := rfl
@[simp] theorem State.clearQueue_peer (s : State) (k : CarrierId) : (s.clearQueue k).peer = s.peer := rfl
@[simp] theorem State.clearQueue_plc (s : State) (k : CarrierId) : (s.clearQueue k).plc = s.plc := rfl
@[simp] theorem State.clearQueue_pbu (s : State) (k : CarrierId) : (s.clearQueue k).pbu = s.pbu := rfl
@[simp] theorem State.clearQueue_cpm (s : State) (k : CarrierId) : (s.clearQueue k).cpm = s.cpm := rfl
@[simp] theorem State.clearQueue_sched (s : State) (k : CarrierId) : (s.clearQueue k).sched = s.sched := rfl
@[simp] theorem State.clearQueue_rxa (s : State) (k : CarrierId) : (s.clearQueue k).rxa = s.rxa := rfl
@[simp] theorem State.clearQueue_links (s : State) (k : CarrierId) : (s.clearQueue k).links = s.links := rfl
@[simp] theorem State.clearQueue_due (s : State) (k : CarrierId) : (s.clearQueue k).due = s.due := rfl
@[simp] theorem State.clearQueue_out (s : State) (k : CarrierId) : (s.clearQueue k).out = s.out := rfl
@[simp] theorem State.clearQueue_freeCount (s : State) (k : CarrierId) : (s.clearQueue k).freeCount = s.freeCount := rfl
@[simp] theorem State.clearQueue_pending (s : State) (k : CarrierId) : (s.clearQueue k).pending = s.pending := rfl

/-! ### State.serviceError -/

@[simp] theorem State.serviceError_running (s : State) (k : CarrierId) : (s.serviceError k).running = s.running := rfl
@[simp] theorem State.serviceError_settings (s : State) (k : CarrierId) : (s.serviceError k).settings = s.settings := rfl
@[simp] theorem State.serviceError_htu (s : State) (k : CarrierId) : (s.serviceError k).htu = s.htu := rfl
@[simp] theorem State.serviceError_scu (s : State) (k : CarrierId) : (s.serviceError k).scu = s.scu.modify k fun x => { x with errors := satSucc32 x.errors } := rfl
@[simp] theorem State.serviceError_clc (s : State) (k : CarrierId) : (s.serviceError k).clc = s.clc := rfl
@[simp] theorem State.serviceError_ftr (s : State) (k : CarrierId) : (s.serviceError k).ftr = s.ftr := rfl
@[simp] theorem State.serviceError_ade (s : State) (k : CarrierId) : (s.serviceError k).ade = s.ade := rfl
@[simp] theorem State.serviceError_askTag (s : State) (k : CarrierId) : (s.serviceError k).askTag = s.askTag := rfl
@[simp] theorem State.serviceError_peer (s : State) (k : CarrierId) : (s.serviceError k).peer = s.peer := rfl
@[simp] theorem State.serviceError_plc (s : State) (k : CarrierId) : (s.serviceError k).plc = s.plc := rfl
@[simp] theorem State.serviceError_pbu (s : State) (k : CarrierId) : (s.serviceError k).pbu = s.pbu := rfl
@[simp] theorem State.serviceError_cpm (s : State) (k : CarrierId) : (s.serviceError k).cpm = s.cpm := rfl
@[simp] theorem State.serviceError_sched (s : State) (k : CarrierId) : (s.serviceError k).sched = s.sched := rfl
@[simp] theorem State.serviceError_rxa (s : State) (k : CarrierId) : (s.serviceError k).rxa = s.rxa := rfl
@[simp] theorem State.serviceError_links (s : State) (k : CarrierId) : (s.serviceError k).links = s.links := rfl
@[simp] theorem State.serviceError_due (s : State) (k : CarrierId) : (s.serviceError k).due = s.due := rfl
@[simp] theorem State.serviceError_out (s : State) (k : CarrierId) : (s.serviceError k).out = s.out := rfl
@[simp] theorem State.serviceError_freeCount (s : State) (k : CarrierId) : (s.serviceError k).freeCount = s.freeCount := rfl
@[simp] theorem State.serviceError_pending (s : State) (k : CarrierId) : (s.serviceError k).pending = s.pending := rfl

/-! ### State.bumpTag -/

@[simp] theorem State.bumpTag_running (s : State) : (s.bumpTag).running = s.running := rfl
@[simp] theorem State.bumpTag_settings (s : State) : (s.bumpTag).settings = s.settings := rfl
@[simp] theorem State.bumpTag_htu (s : State) : (s.bumpTag).htu = s.htu := rfl
@[simp] theorem State.bumpTag_scu (s : State) : (s.bumpTag).scu = s.scu := rfl
@[simp] theorem State.bumpTag_clc (s : State) : (s.bumpTag).clc = s.clc := rfl
@[simp] theorem State.bumpTag_ftr (s : State) : (s.bumpTag).ftr = s.ftr := rfl
@[simp] theorem State.bumpTag_ade (s : State) : (s.bumpTag).ade = s.ade := rfl
@[simp] theorem State.bumpTag_askTag (s : State) : (s.bumpTag).askTag = s.askTag := rfl
@[simp] theorem State.bumpTag_peer (s : State) : (s.bumpTag).peer = s.peer := rfl
@[simp] theorem State.bumpTag_plc (s : State) : (s.bumpTag).plc = { s.plc with nextTag := s.plc.nextTag + 1 } := rfl
@[simp] theorem State.bumpTag_pbu (s : State) : (s.bumpTag).pbu = s.pbu := rfl
@[simp] theorem State.bumpTag_cpm (s : State) : (s.bumpTag).cpm = s.cpm := rfl
@[simp] theorem State.bumpTag_sched (s : State) : (s.bumpTag).sched = s.sched := rfl
@[simp] theorem State.bumpTag_rxa (s : State) : (s.bumpTag).rxa = s.rxa := rfl
@[simp] theorem State.bumpTag_links (s : State) : (s.bumpTag).links = s.links := rfl
@[simp] theorem State.bumpTag_due (s : State) : (s.bumpTag).due = s.due := rfl
@[simp] theorem State.bumpTag_out (s : State) : (s.bumpTag).out = s.out := rfl
@[simp] theorem State.bumpTag_freeCount (s : State) : (s.bumpTag).freeCount = s.freeCount := rfl
@[simp] theorem State.bumpTag_pending (s : State) : (s.bumpTag).pending = s.pending := rfl

/-! ### State.clearDraining -/

@[simp] theorem State.clearDraining_running (s : State) (u : UnitId) : (s.clearDraining u).running = s.running := rfl
@[simp] theorem State.clearDraining_settings (s : State) (u : UnitId) : (s.clearDraining u).settings = s.settings := rfl
@[simp] theorem State.clearDraining_htu (s : State) (u : UnitId) : (s.clearDraining u).htu = s.htu := rfl
@[simp] theorem State.clearDraining_scu (s : State) (u : UnitId) : (s.clearDraining u).scu = s.scu := rfl
@[simp] theorem State.clearDraining_clc (s : State) (u : UnitId) : (s.clearDraining u).clc = s.clc := rfl
@[simp] theorem State.clearDraining_ftr (s : State) (u : UnitId) : (s.clearDraining u).ftr = s.ftr := rfl
@[simp] theorem State.clearDraining_ade (s : State) (u : UnitId) : (s.clearDraining u).ade = s.ade := rfl
@[simp] theorem State.clearDraining_askTag (s : State) (u : UnitId) : (s.clearDraining u).askTag = s.askTag := rfl
@[simp] theorem State.clearDraining_peer (s : State) (u : UnitId) : (s.clearDraining u).peer = s.peer := rfl
@[simp] theorem State.clearDraining_plc (s : State) (u : UnitId) : (s.clearDraining u).plc = { s.plc with draining := s.plc.draining.set u false } := rfl
@[simp] theorem State.clearDraining_pbu (s : State) (u : UnitId) : (s.clearDraining u).pbu = s.pbu := rfl
@[simp] theorem State.clearDraining_cpm (s : State) (u : UnitId) : (s.clearDraining u).cpm = s.cpm := rfl
@[simp] theorem State.clearDraining_sched (s : State) (u : UnitId) : (s.clearDraining u).sched = s.sched := rfl
@[simp] theorem State.clearDraining_rxa (s : State) (u : UnitId) : (s.clearDraining u).rxa = s.rxa := rfl
@[simp] theorem State.clearDraining_links (s : State) (u : UnitId) : (s.clearDraining u).links = s.links := rfl
@[simp] theorem State.clearDraining_due (s : State) (u : UnitId) : (s.clearDraining u).due = s.due := rfl
@[simp] theorem State.clearDraining_out (s : State) (u : UnitId) : (s.clearDraining u).out = s.out := rfl
@[simp] theorem State.clearDraining_freeCount (s : State) (u : UnitId) : (s.clearDraining u).freeCount = s.freeCount := rfl
@[simp] theorem State.clearDraining_pending (s : State) (u : UnitId) : (s.clearDraining u).pending = s.pending := rfl

/-! ### State.endProposing -/

@[simp] theorem State.endProposing_running (s : State) (u : UnitId) : (s.endProposing u).running = s.running := rfl
@[simp] theorem State.endProposing_settings (s : State) (u : UnitId) : (s.endProposing u).settings = s.settings := rfl
@[simp] theorem State.endProposing_htu (s : State) (u : UnitId) : (s.endProposing u).htu = s.htu := rfl
@[simp] theorem State.endProposing_scu (s : State) (u : UnitId) : (s.endProposing u).scu = s.scu := rfl
@[simp] theorem State.endProposing_clc (s : State) (u : UnitId) : (s.endProposing u).clc = s.clc := rfl
@[simp] theorem State.endProposing_ftr (s : State) (u : UnitId) : (s.endProposing u).ftr = s.ftr := rfl
@[simp] theorem State.endProposing_askTag (s : State) (u : UnitId) : (s.endProposing u).askTag = s.askTag := rfl
@[simp] theorem State.endProposing_peer (s : State) (u : UnitId) : (s.endProposing u).peer = s.peer := rfl
@[simp] theorem State.endProposing_plc (s : State) (u : UnitId) : (s.endProposing u).plc = s.plc := rfl
@[simp] theorem State.endProposing_pbu (s : State) (u : UnitId) : (s.endProposing u).pbu = s.pbu := rfl
@[simp] theorem State.endProposing_cpm (s : State) (u : UnitId) : (s.endProposing u).cpm = s.cpm := rfl
@[simp] theorem State.endProposing_sched (s : State) (u : UnitId) : (s.endProposing u).sched = s.sched := rfl
@[simp] theorem State.endProposing_rxa (s : State) (u : UnitId) : (s.endProposing u).rxa = s.rxa := rfl
@[simp] theorem State.endProposing_links (s : State) (u : UnitId) : (s.endProposing u).links = s.links := rfl
@[simp] theorem State.endProposing_due (s : State) (u : UnitId) : (s.endProposing u).due = s.due := rfl
@[simp] theorem State.endProposing_out (s : State) (u : UnitId) : (s.endProposing u).out = s.out := rfl
@[simp] theorem State.endProposing_freeCount (s : State) (u : UnitId) : (s.endProposing u).freeCount = s.freeCount := rfl
@[simp] theorem State.endProposing_pending (s : State) (u : UnitId) : (s.endProposing u).pending = s.pending := rfl

/-! ### State.refill -/

@[simp] theorem State.refill_running (s : State) : (s.refill).running = s.running := rfl
@[simp] theorem State.refill_settings (s : State) : (s.refill).settings = s.settings := rfl
@[simp] theorem State.refill_htu (s : State) : (s.refill).htu = s.htu := rfl
@[simp] theorem State.refill_scu (s : State) : (s.refill).scu = s.scu := rfl
@[simp] theorem State.refill_clc (s : State) : (s.refill).clc = s.clc := rfl
@[simp] theorem State.refill_ftr (s : State) : (s.refill).ftr = s.ftr := rfl
@[simp] theorem State.refill_ade (s : State) : (s.refill).ade = s.ade := rfl
@[simp] theorem State.refill_askTag (s : State) : (s.refill).askTag = s.askTag := rfl
@[simp] theorem State.refill_peer (s : State) : (s.refill).peer = s.peer := rfl
@[simp] theorem State.refill_plc (s : State) : (s.refill).plc = s.plc := rfl
@[simp] theorem State.refill_pbu (s : State) : (s.refill).pbu = s.pbu := rfl
@[simp] theorem State.refill_cpm (s : State) : (s.refill).cpm = s.cpm := rfl
@[simp] theorem State.refill_sched (s : State) : (s.refill).sched = s.sched.refill s.env := rfl
@[simp] theorem State.refill_rxa (s : State) : (s.refill).rxa = s.rxa := rfl
@[simp] theorem State.refill_links (s : State) : (s.refill).links = s.links := rfl
@[simp] theorem State.refill_due (s : State) : (s.refill).due = s.due := rfl
@[simp] theorem State.refill_out (s : State) : (s.refill).out = s.out := rfl
@[simp] theorem State.refill_freeCount (s : State) : (s.refill).freeCount = s.freeCount := rfl
@[simp] theorem State.refill_pending (s : State) : (s.refill).pending = s.pending := rfl

/-! ### State.renewCredits -/

@[simp] theorem State.renewCredits_running (s : State) : (s.renewCredits).running = s.running := rfl
@[simp] theorem State.renewCredits_settings (s : State) : (s.renewCredits).settings = s.settings := rfl
@[simp] theorem State.renewCredits_htu (s : State) : (s.renewCredits).htu = s.htu := rfl
@[simp] theorem State.renewCredits_scu (s : State) : (s.renewCredits).scu = s.scu := rfl
@[simp] theorem State.renewCredits_clc (s : State) : (s.renewCredits).clc = s.clc := rfl
@[simp] theorem State.renewCredits_ftr (s : State) : (s.renewCredits).ftr = s.ftr := rfl
@[simp] theorem State.renewCredits_ade (s : State) : (s.renewCredits).ade = s.ade := rfl
@[simp] theorem State.renewCredits_askTag (s : State) : (s.renewCredits).askTag = s.askTag := rfl
@[simp] theorem State.renewCredits_peer (s : State) : (s.renewCredits).peer = s.peer := rfl
@[simp] theorem State.renewCredits_plc (s : State) : (s.renewCredits).plc = s.plc := rfl
@[simp] theorem State.renewCredits_pbu (s : State) : (s.renewCredits).pbu = s.pbu := rfl
@[simp] theorem State.renewCredits_cpm (s : State) : (s.renewCredits).cpm = s.cpm := rfl
@[simp] theorem State.renewCredits_rxa (s : State) : (s.renewCredits).rxa = s.rxa := rfl
@[simp] theorem State.renewCredits_links (s : State) : (s.renewCredits).links = s.links := rfl
@[simp] theorem State.renewCredits_due (s : State) : (s.renewCredits).due = s.due := rfl
@[simp] theorem State.renewCredits_out (s : State) : (s.renewCredits).out = s.out := rfl
@[simp] theorem State.renewCredits_freeCount (s : State) : (s.renewCredits).freeCount = s.freeCount := rfl
@[simp] theorem State.renewCredits_pending (s : State) : (s.renewCredits).pending = s.pending := rfl

/-! ### State.startTransmitters -/

@[simp] theorem State.startTransmitters_running (s : State) : (s.startTransmitters).running = s.running := rfl
@[simp] theorem State.startTransmitters_settings (s : State) : (s.startTransmitters).settings = s.settings := rfl
@[simp] theorem State.startTransmitters_htu (s : State) : (s.startTransmitters).htu = s.htu := rfl
@[simp] theorem State.startTransmitters_scu (s : State) : (s.startTransmitters).scu = s.scu := rfl
@[simp] theorem State.startTransmitters_clc (s : State) : (s.startTransmitters).clc = s.clc := rfl
@[simp] theorem State.startTransmitters_ftr (s : State) : (s.startTransmitters).ftr = s.ftr := rfl
@[simp] theorem State.startTransmitters_ade (s : State) : (s.startTransmitters).ade = s.ade := rfl
@[simp] theorem State.startTransmitters_askTag (s : State) : (s.startTransmitters).askTag = s.askTag := rfl
@[simp] theorem State.startTransmitters_peer (s : State) : (s.startTransmitters).peer = s.peer := rfl
@[simp] theorem State.startTransmitters_plc (s : State) : (s.startTransmitters).plc = s.plc := rfl
@[simp] theorem State.startTransmitters_pbu (s : State) : (s.startTransmitters).pbu = s.pbu := rfl
@[simp] theorem State.startTransmitters_cpm (s : State) : (s.startTransmitters).cpm = s.cpm := rfl
@[simp] theorem State.startTransmitters_sched (s : State) : (s.startTransmitters).sched = s.sched := rfl
@[simp] theorem State.startTransmitters_rxa (s : State) : (s.startTransmitters).rxa = s.rxa := rfl
@[simp] theorem State.startTransmitters_links (s : State) : (s.startTransmitters).links = Four.build fun t => startTransmitter (s.rxa.egress.get t) (s.links.get t) := rfl
@[simp] theorem State.startTransmitters_due (s : State) : (s.startTransmitters).due = s.due := rfl
@[simp] theorem State.startTransmitters_out (s : State) : (s.startTransmitters).out = s.out := rfl
@[simp] theorem State.startTransmitters_freeCount (s : State) : (s.startTransmitters).freeCount = s.freeCount := rfl
@[simp] theorem State.startTransmitters_pending (s : State) : (s.startTransmitters).pending = s.pending := rfl

/-! ### State.countTraffic -/

@[simp] theorem State.countTraffic_running (s : State) (u : UnitId) (n : Nat) : (s.countTraffic u n).running = s.running := rfl
@[simp] theorem State.countTraffic_settings (s : State) (u : UnitId) (n : Nat) : (s.countTraffic u n).settings = s.settings := rfl
@[simp] theorem State.countTraffic_htu (s : State) (u : UnitId) (n : Nat) : (s.countTraffic u n).htu = s.htu := rfl
@[simp] theorem State.countTraffic_scu (s : State) (u : UnitId) (n : Nat) : (s.countTraffic u n).scu = s.scu := rfl
@[simp] theorem State.countTraffic_clc (s : State) (u : UnitId) (n : Nat) : (s.countTraffic u n).clc = s.clc := rfl
@[simp] theorem State.countTraffic_ftr (s : State) (u : UnitId) (n : Nat) : (s.countTraffic u n).ftr = s.ftr := rfl
@[simp] theorem State.countTraffic_ade (s : State) (u : UnitId) (n : Nat) : (s.countTraffic u n).ade = s.ade := rfl
@[simp] theorem State.countTraffic_askTag (s : State) (u : UnitId) (n : Nat) : (s.countTraffic u n).askTag = s.askTag := rfl
@[simp] theorem State.countTraffic_peer (s : State) (u : UnitId) (n : Nat) : (s.countTraffic u n).peer = s.peer := rfl
@[simp] theorem State.countTraffic_plc (s : State) (u : UnitId) (n : Nat) : (s.countTraffic u n).plc = s.plc := rfl
@[simp] theorem State.countTraffic_pbu (s : State) (u : UnitId) (n : Nat) : (s.countTraffic u n).pbu = s.pbu := rfl
@[simp] theorem State.countTraffic_sched (s : State) (u : UnitId) (n : Nat) : (s.countTraffic u n).sched = s.sched := rfl
@[simp] theorem State.countTraffic_rxa (s : State) (u : UnitId) (n : Nat) : (s.countTraffic u n).rxa = s.rxa := rfl
@[simp] theorem State.countTraffic_links (s : State) (u : UnitId) (n : Nat) : (s.countTraffic u n).links = s.links := rfl
@[simp] theorem State.countTraffic_due (s : State) (u : UnitId) (n : Nat) : (s.countTraffic u n).due = s.due := rfl
@[simp] theorem State.countTraffic_out (s : State) (u : UnitId) (n : Nat) : (s.countTraffic u n).out = s.out := rfl
@[simp] theorem State.countTraffic_freeCount (s : State) (u : UnitId) (n : Nat) : (s.countTraffic u n).freeCount = s.freeCount := rfl
@[simp] theorem State.countTraffic_pending (s : State) (u : UnitId) (n : Nat) : (s.countTraffic u n).pending = s.pending := rfl

/-! ### State.countFrame -/

@[simp] theorem State.countFrame_running (s : State) (u : UnitId) (n m : Nat) : (s.countFrame u n m).running = s.running := rfl
@[simp] theorem State.countFrame_settings (s : State) (u : UnitId) (n m : Nat) : (s.countFrame u n m).settings = s.settings := rfl
@[simp] theorem State.countFrame_htu (s : State) (u : UnitId) (n m : Nat) : (s.countFrame u n m).htu = s.htu := rfl
@[simp] theorem State.countFrame_scu (s : State) (u : UnitId) (n m : Nat) : (s.countFrame u n m).scu = s.scu := rfl
@[simp] theorem State.countFrame_clc (s : State) (u : UnitId) (n m : Nat) : (s.countFrame u n m).clc = s.clc := rfl
@[simp] theorem State.countFrame_ftr (s : State) (u : UnitId) (n m : Nat) : (s.countFrame u n m).ftr = s.ftr := rfl
@[simp] theorem State.countFrame_ade (s : State) (u : UnitId) (n m : Nat) : (s.countFrame u n m).ade = s.ade := rfl
@[simp] theorem State.countFrame_askTag (s : State) (u : UnitId) (n m : Nat) : (s.countFrame u n m).askTag = s.askTag := rfl
@[simp] theorem State.countFrame_peer (s : State) (u : UnitId) (n m : Nat) : (s.countFrame u n m).peer = s.peer := rfl
@[simp] theorem State.countFrame_plc (s : State) (u : UnitId) (n m : Nat) : (s.countFrame u n m).plc = s.plc := rfl
@[simp] theorem State.countFrame_pbu (s : State) (u : UnitId) (n m : Nat) : (s.countFrame u n m).pbu = s.pbu := rfl
@[simp] theorem State.countFrame_sched (s : State) (u : UnitId) (n m : Nat) : (s.countFrame u n m).sched = s.sched := rfl
@[simp] theorem State.countFrame_rxa (s : State) (u : UnitId) (n m : Nat) : (s.countFrame u n m).rxa = s.rxa := rfl
@[simp] theorem State.countFrame_links (s : State) (u : UnitId) (n m : Nat) : (s.countFrame u n m).links = s.links := rfl
@[simp] theorem State.countFrame_due (s : State) (u : UnitId) (n m : Nat) : (s.countFrame u n m).due = s.due := rfl
@[simp] theorem State.countFrame_out (s : State) (u : UnitId) (n m : Nat) : (s.countFrame u n m).out = s.out := rfl
@[simp] theorem State.countFrame_freeCount (s : State) (u : UnitId) (n m : Nat) : (s.countFrame u n m).freeCount = s.freeCount := rfl
@[simp] theorem State.countFrame_pending (s : State) (u : UnitId) (n m : Nat) : (s.countFrame u n m).pending = s.pending := rfl

/-! ### State.clearHold -/

@[simp] theorem State.clearHold_running (s : State) (u : UnitId) : (s.clearHold u).running = s.running := rfl
@[simp] theorem State.clearHold_settings (s : State) (u : UnitId) : (s.clearHold u).settings = s.settings := rfl
@[simp] theorem State.clearHold_htu (s : State) (u : UnitId) : (s.clearHold u).htu = s.htu := rfl
@[simp] theorem State.clearHold_scu (s : State) (u : UnitId) : (s.clearHold u).scu = s.scu := rfl
@[simp] theorem State.clearHold_clc (s : State) (u : UnitId) : (s.clearHold u).clc = s.clc := rfl
@[simp] theorem State.clearHold_ftr (s : State) (u : UnitId) : (s.clearHold u).ftr = s.ftr := rfl
@[simp] theorem State.clearHold_ade (s : State) (u : UnitId) : (s.clearHold u).ade = s.ade := rfl
@[simp] theorem State.clearHold_askTag (s : State) (u : UnitId) : (s.clearHold u).askTag = s.askTag := rfl
@[simp] theorem State.clearHold_peer (s : State) (u : UnitId) : (s.clearHold u).peer = s.peer := rfl
@[simp] theorem State.clearHold_plc (s : State) (u : UnitId) : (s.clearHold u).plc = s.plc := rfl
@[simp] theorem State.clearHold_pbu (s : State) (u : UnitId) : (s.clearHold u).pbu = s.pbu := rfl
@[simp] theorem State.clearHold_cpm (s : State) (u : UnitId) : (s.clearHold u).cpm = s.cpm := rfl
@[simp] theorem State.clearHold_sched (s : State) (u : UnitId) : (s.clearHold u).sched = s.sched := rfl
@[simp] theorem State.clearHold_rxa (s : State) (u : UnitId) : (s.clearHold u).rxa = { s.rxa with hold := s.rxa.hold.set u none } := rfl
@[simp] theorem State.clearHold_links (s : State) (u : UnitId) : (s.clearHold u).links = s.links := rfl
@[simp] theorem State.clearHold_due (s : State) (u : UnitId) : (s.clearHold u).due = s.due := rfl
@[simp] theorem State.clearHold_out (s : State) (u : UnitId) : (s.clearHold u).out = s.out := rfl
@[simp] theorem State.clearHold_freeCount (s : State) (u : UnitId) : (s.clearHold u).freeCount = s.freeCount := rfl
@[simp] theorem State.clearHold_pending (s : State) (u : UnitId) : (s.clearHold u).pending = s.pending := rfl

/-! ### State.setRecord -/

@[simp] theorem State.setRecord_running (s : State) (u : UnitId) (r : PairRecord) : (s.setRecord u r).running = s.running := rfl
@[simp] theorem State.setRecord_settings (s : State) (u : UnitId) (r : PairRecord) : (s.setRecord u r).settings = s.settings := rfl
@[simp] theorem State.setRecord_htu (s : State) (u : UnitId) (r : PairRecord) : (s.setRecord u r).htu = s.htu := rfl
@[simp] theorem State.setRecord_scu (s : State) (u : UnitId) (r : PairRecord) : (s.setRecord u r).scu = s.scu := rfl
@[simp] theorem State.setRecord_clc (s : State) (u : UnitId) (r : PairRecord) : (s.setRecord u r).clc = s.clc := rfl
@[simp] theorem State.setRecord_ftr (s : State) (u : UnitId) (r : PairRecord) : (s.setRecord u r).ftr = s.ftr := rfl
@[simp] theorem State.setRecord_ade (s : State) (u : UnitId) (r : PairRecord) : (s.setRecord u r).ade = s.ade := rfl
@[simp] theorem State.setRecord_askTag (s : State) (u : UnitId) (r : PairRecord) : (s.setRecord u r).askTag = s.askTag := rfl
@[simp] theorem State.setRecord_peer (s : State) (u : UnitId) (r : PairRecord) : (s.setRecord u r).peer = s.peer := rfl
@[simp] theorem State.setRecord_plc (s : State) (u : UnitId) (r : PairRecord) : (s.setRecord u r).plc = s.plc := rfl
@[simp] theorem State.setRecord_pbu (s : State) (u : UnitId) (r : PairRecord) : (s.setRecord u r).pbu = s.pbu := rfl
@[simp] theorem State.setRecord_cpm (s : State) (u : UnitId) (r : PairRecord) : (s.setRecord u r).cpm = s.cpm := rfl
@[simp] theorem State.setRecord_rxa (s : State) (u : UnitId) (r : PairRecord) : (s.setRecord u r).rxa = s.rxa := rfl
@[simp] theorem State.setRecord_links (s : State) (u : UnitId) (r : PairRecord) : (s.setRecord u r).links = s.links := rfl
@[simp] theorem State.setRecord_due (s : State) (u : UnitId) (r : PairRecord) : (s.setRecord u r).due = s.due := rfl
@[simp] theorem State.setRecord_out (s : State) (u : UnitId) (r : PairRecord) : (s.setRecord u r).out = s.out := rfl
@[simp] theorem State.setRecord_freeCount (s : State) (u : UnitId) (r : PairRecord) : (s.setRecord u r).freeCount = s.freeCount := rfl
@[simp] theorem State.setRecord_pending (s : State) (u : UnitId) (r : PairRecord) : (s.setRecord u r).pending = s.pending := rfl

/-! ### State.writeLane -/

@[simp] theorem State.writeLane_running (s : State) (t : TenantId) (l : LaneIx) (e : LaneEntry) : (s.writeLane t l e).running = s.running := rfl
@[simp] theorem State.writeLane_settings (s : State) (t : TenantId) (l : LaneIx) (e : LaneEntry) : (s.writeLane t l e).settings = s.settings := rfl
@[simp] theorem State.writeLane_htu (s : State) (t : TenantId) (l : LaneIx) (e : LaneEntry) : (s.writeLane t l e).htu = s.htu := rfl
@[simp] theorem State.writeLane_scu (s : State) (t : TenantId) (l : LaneIx) (e : LaneEntry) : (s.writeLane t l e).scu = s.scu := rfl
@[simp] theorem State.writeLane_clc (s : State) (t : TenantId) (l : LaneIx) (e : LaneEntry) : (s.writeLane t l e).clc = s.clc := rfl
@[simp] theorem State.writeLane_ftr (s : State) (t : TenantId) (l : LaneIx) (e : LaneEntry) : (s.writeLane t l e).ftr = s.ftr := rfl
@[simp] theorem State.writeLane_ade (s : State) (t : TenantId) (l : LaneIx) (e : LaneEntry) : (s.writeLane t l e).ade = s.ade := rfl
@[simp] theorem State.writeLane_askTag (s : State) (t : TenantId) (l : LaneIx) (e : LaneEntry) : (s.writeLane t l e).askTag = s.askTag := rfl
@[simp] theorem State.writeLane_peer (s : State) (t : TenantId) (l : LaneIx) (e : LaneEntry) : (s.writeLane t l e).peer = s.peer := rfl
@[simp] theorem State.writeLane_plc (s : State) (t : TenantId) (l : LaneIx) (e : LaneEntry) : (s.writeLane t l e).plc = s.plc := rfl
@[simp] theorem State.writeLane_pbu (s : State) (t : TenantId) (l : LaneIx) (e : LaneEntry) : (s.writeLane t l e).pbu = s.pbu := rfl
@[simp] theorem State.writeLane_cpm (s : State) (t : TenantId) (l : LaneIx) (e : LaneEntry) : (s.writeLane t l e).cpm = s.cpm := rfl
@[simp] theorem State.writeLane_rxa (s : State) (t : TenantId) (l : LaneIx) (e : LaneEntry) : (s.writeLane t l e).rxa = s.rxa := rfl
@[simp] theorem State.writeLane_links (s : State) (t : TenantId) (l : LaneIx) (e : LaneEntry) : (s.writeLane t l e).links = s.links := rfl
@[simp] theorem State.writeLane_due (s : State) (t : TenantId) (l : LaneIx) (e : LaneEntry) : (s.writeLane t l e).due = s.due := rfl
@[simp] theorem State.writeLane_out (s : State) (t : TenantId) (l : LaneIx) (e : LaneEntry) : (s.writeLane t l e).out = s.out := rfl
@[simp] theorem State.writeLane_freeCount (s : State) (t : TenantId) (l : LaneIx) (e : LaneEntry) : (s.writeLane t l e).freeCount = s.freeCount := rfl
@[simp] theorem State.writeLane_pending (s : State) (t : TenantId) (l : LaneIx) (e : LaneEntry) : (s.writeLane t l e).pending = s.pending := rfl

/-! ### State.clearDwell -/

@[simp] theorem State.clearDwell_running (s : State) (k : CarrierId) : (s.clearDwell k).running = s.running := rfl
@[simp] theorem State.clearDwell_settings (s : State) (k : CarrierId) : (s.clearDwell k).settings = s.settings := rfl
@[simp] theorem State.clearDwell_htu (s : State) (k : CarrierId) : (s.clearDwell k).htu = s.htu := rfl
@[simp] theorem State.clearDwell_scu (s : State) (k : CarrierId) : (s.clearDwell k).scu = s.scu := rfl
@[simp] theorem State.clearDwell_clc (s : State) (k : CarrierId) : (s.clearDwell k).clc = s.clc := rfl
@[simp] theorem State.clearDwell_ftr (s : State) (k : CarrierId) : (s.clearDwell k).ftr = s.ftr := rfl
@[simp] theorem State.clearDwell_ade (s : State) (k : CarrierId) : (s.clearDwell k).ade = s.ade := rfl
@[simp] theorem State.clearDwell_askTag (s : State) (k : CarrierId) : (s.clearDwell k).askTag = s.askTag := rfl
@[simp] theorem State.clearDwell_peer (s : State) (k : CarrierId) : (s.clearDwell k).peer = s.peer := rfl
@[simp] theorem State.clearDwell_plc (s : State) (k : CarrierId) : (s.clearDwell k).plc = s.plc := rfl
@[simp] theorem State.clearDwell_pbu (s : State) (k : CarrierId) : (s.clearDwell k).pbu = s.pbu := rfl
@[simp] theorem State.clearDwell_sched (s : State) (k : CarrierId) : (s.clearDwell k).sched = s.sched := rfl
@[simp] theorem State.clearDwell_rxa (s : State) (k : CarrierId) : (s.clearDwell k).rxa = s.rxa := rfl
@[simp] theorem State.clearDwell_links (s : State) (k : CarrierId) : (s.clearDwell k).links = s.links := rfl
@[simp] theorem State.clearDwell_due (s : State) (k : CarrierId) : (s.clearDwell k).due = s.due := rfl
@[simp] theorem State.clearDwell_out (s : State) (k : CarrierId) : (s.clearDwell k).out = s.out := rfl
@[simp] theorem State.clearDwell_freeCount (s : State) (k : CarrierId) : (s.clearDwell k).freeCount = s.freeCount := rfl
@[simp] theorem State.clearDwell_pending (s : State) (k : CarrierId) : (s.clearDwell k).pending = s.pending := rfl

/-! ### State.setAtCap -/

@[simp] theorem State.setAtCap_running (s : State) (u : UnitId) : (s.setAtCap u).running = s.running := rfl
@[simp] theorem State.setAtCap_settings (s : State) (u : UnitId) : (s.setAtCap u).settings = s.settings := rfl
@[simp] theorem State.setAtCap_htu (s : State) (u : UnitId) : (s.setAtCap u).htu = s.htu := rfl
@[simp] theorem State.setAtCap_scu (s : State) (u : UnitId) : (s.setAtCap u).scu = s.scu := rfl
@[simp] theorem State.setAtCap_clc (s : State) (u : UnitId) : (s.setAtCap u).clc = s.clc := rfl
@[simp] theorem State.setAtCap_ftr (s : State) (u : UnitId) : (s.setAtCap u).ftr = s.ftr := rfl
@[simp] theorem State.setAtCap_askTag (s : State) (u : UnitId) : (s.setAtCap u).askTag = s.askTag := rfl
@[simp] theorem State.setAtCap_peer (s : State) (u : UnitId) : (s.setAtCap u).peer = s.peer := rfl
@[simp] theorem State.setAtCap_plc (s : State) (u : UnitId) : (s.setAtCap u).plc = s.plc := rfl
@[simp] theorem State.setAtCap_pbu (s : State) (u : UnitId) : (s.setAtCap u).pbu = s.pbu := rfl
@[simp] theorem State.setAtCap_cpm (s : State) (u : UnitId) : (s.setAtCap u).cpm = s.cpm := rfl
@[simp] theorem State.setAtCap_sched (s : State) (u : UnitId) : (s.setAtCap u).sched = s.sched := rfl
@[simp] theorem State.setAtCap_rxa (s : State) (u : UnitId) : (s.setAtCap u).rxa = s.rxa := rfl
@[simp] theorem State.setAtCap_links (s : State) (u : UnitId) : (s.setAtCap u).links = s.links := rfl
@[simp] theorem State.setAtCap_due (s : State) (u : UnitId) : (s.setAtCap u).due = s.due := rfl
@[simp] theorem State.setAtCap_out (s : State) (u : UnitId) : (s.setAtCap u).out = s.out := rfl
@[simp] theorem State.setAtCap_freeCount (s : State) (u : UnitId) : (s.setAtCap u).freeCount = s.freeCount := rfl
@[simp] theorem State.setAtCap_pending (s : State) (u : UnitId) : (s.setAtCap u).pending = s.pending := rfl

/-! ### State.endAsk -/

@[simp] theorem State.endAsk_running (s : State) (u : UnitId) : (s.endAsk u).running = s.running := rfl
@[simp] theorem State.endAsk_settings (s : State) (u : UnitId) : (s.endAsk u).settings = s.settings := rfl
@[simp] theorem State.endAsk_htu (s : State) (u : UnitId) : (s.endAsk u).htu = s.htu := rfl
@[simp] theorem State.endAsk_scu (s : State) (u : UnitId) : (s.endAsk u).scu = s.scu := rfl
@[simp] theorem State.endAsk_clc (s : State) (u : UnitId) : (s.endAsk u).clc = s.clc := rfl
@[simp] theorem State.endAsk_ftr (s : State) (u : UnitId) : (s.endAsk u).ftr = s.ftr := rfl
@[simp] theorem State.endAsk_askTag (s : State) (u : UnitId) : (s.endAsk u).askTag = s.askTag := rfl
@[simp] theorem State.endAsk_peer (s : State) (u : UnitId) : (s.endAsk u).peer = s.peer := rfl
@[simp] theorem State.endAsk_plc (s : State) (u : UnitId) : (s.endAsk u).plc = s.plc := rfl
@[simp] theorem State.endAsk_pbu (s : State) (u : UnitId) : (s.endAsk u).pbu = s.pbu := rfl
@[simp] theorem State.endAsk_cpm (s : State) (u : UnitId) : (s.endAsk u).cpm = s.cpm := rfl
@[simp] theorem State.endAsk_sched (s : State) (u : UnitId) : (s.endAsk u).sched = s.sched := rfl
@[simp] theorem State.endAsk_rxa (s : State) (u : UnitId) : (s.endAsk u).rxa = s.rxa := rfl
@[simp] theorem State.endAsk_links (s : State) (u : UnitId) : (s.endAsk u).links = s.links := rfl
@[simp] theorem State.endAsk_due (s : State) (u : UnitId) : (s.endAsk u).due = s.due := rfl
@[simp] theorem State.endAsk_out (s : State) (u : UnitId) : (s.endAsk u).out = s.out := rfl
@[simp] theorem State.endAsk_freeCount (s : State) (u : UnitId) : (s.endAsk u).freeCount = s.freeCount := rfl
@[simp] theorem State.endAsk_pending (s : State) (u : UnitId) : (s.endAsk u).pending = s.pending := rfl

/-! ### State.supplyChange -/

@[simp] theorem State.supplyChange_running (s : State) (a b : Bool) : (s.supplyChange a b).running = s.running := rfl
@[simp] theorem State.supplyChange_settings (s : State) (a b : Bool) : (s.supplyChange a b).settings = s.settings := rfl
@[simp] theorem State.supplyChange_htu (s : State) (a b : Bool) : (s.supplyChange a b).htu = s.htu := rfl
@[simp] theorem State.supplyChange_scu (s : State) (a b : Bool) : (s.supplyChange a b).scu = s.scu := rfl
@[simp] theorem State.supplyChange_clc (s : State) (a b : Bool) : (s.supplyChange a b).clc = s.clc := rfl
@[simp] theorem State.supplyChange_ftr (s : State) (a b : Bool) : (s.supplyChange a b).ftr = s.ftr := rfl
@[simp] theorem State.supplyChange_ade (s : State) (a b : Bool) : (s.supplyChange a b).ade = s.ade := rfl
@[simp] theorem State.supplyChange_askTag (s : State) (a b : Bool) : (s.supplyChange a b).askTag = s.askTag := rfl
@[simp] theorem State.supplyChange_peer (s : State) (a b : Bool) : (s.supplyChange a b).peer = s.peer := rfl
@[simp] theorem State.supplyChange_plc (s : State) (a b : Bool) : (s.supplyChange a b).plc = s.plc := rfl
@[simp] theorem State.supplyChange_cpm (s : State) (a b : Bool) : (s.supplyChange a b).cpm = s.cpm := rfl
@[simp] theorem State.supplyChange_sched (s : State) (a b : Bool) : (s.supplyChange a b).sched = s.sched := rfl
@[simp] theorem State.supplyChange_rxa (s : State) (a b : Bool) : (s.supplyChange a b).rxa = s.rxa := rfl
@[simp] theorem State.supplyChange_links (s : State) (a b : Bool) : (s.supplyChange a b).links = s.links := rfl
@[simp] theorem State.supplyChange_due (s : State) (a b : Bool) : (s.supplyChange a b).due = s.due := rfl
@[simp] theorem State.supplyChange_out (s : State) (a b : Bool) : (s.supplyChange a b).out = s.out := rfl
@[simp] theorem State.supplyChange_freeCount (s : State) (a b : Bool) : (s.supplyChange a b).freeCount = s.freeCount := rfl
@[simp] theorem State.supplyChange_pending (s : State) (a b : Bool) : (s.supplyChange a b).pending = s.pending := rfl

end Sys2Proof.Machine
end

