-- ==== Sys2Proof/Laws/Frames.lean ====
section
/-! SUPPORT. Footprints: for each shared operation, which parts of the state it can change at all. A footprint is a relation
between the state before and after; each is reflexive and transitive, so the footprint of a composition is that of its parts. -/

namespace Sys2Proof.Machine

/-! ## The footprints -/

/-- Only the tenant links may differ. -/
def State.OnlyLinks (s t : State) : Prop := ∃ l, t = { s with links := l }

/-- Only the scheduler's state may differ. -/
def State.OnlySched (s t : State) : Prop := ∃ x, t = { s with sched := x }

/-- Only the scheduler's state and the tenant links may differ. -/
def State.OnlyQueues (s t : State) : Prop := ∃ x l, t = { s with sched := x, links := l }

/-- Only the adaptation contexts, the Plan Controller, the scheduler and the tenant links may differ. -/
def State.OnlyPlan (s t : State) : Prop := ∃ a p x l, t = { s with ade := a, plc := p, sched := x, links := l }

/-- Only the outbound service queues, the Plan Controller and the tenant links may differ. -/
def State.OnlyRequest (s t : State) : Prop := ∃ c p l, t = { s with scu := c, plc := p, links := l }

/-- Only the Receive Assembler, the pool's counts and the tenant links may differ. -/
def State.OnlyReceive (s t : State) : Prop := ∃ r c l, t = { s with rxa := r, cpm := c, links := l }

/-- Only the outbound service queues, the level on each carrier, the outputs may differ. -/
def State.OnlyLevels (s t : State) : Prop :=
  ∃ c l o, t = { s with scu := c, pbu := { s.pbu with level := l }, out := o }

/-- What no event of a running part changes: the phase, the settings, the ask tag counter but for asks, the supply-state input and
the modes, the debounce count, the commands that wait. -/
structure State.Kept (s t : State) : Prop where
  running : t.running = s.running
  settings : t.settings = s.settings
  pending : t.pending = s.pending
  lineA : t.pbu.lineA = s.pbu.lineA
  lineB : t.pbu.lineB = s.pbu.lineB
  target : t.pbu.target = s.pbu.target

/-- What a change of link state keeps beside that: mode in effect, debounce count, expiries left, free values, ask tag. -/
structure State.Held (s t : State) : Prop extends State.Kept s t where
  effective : t.pbu.effective = s.pbu.effective
  debounce : t.pbu.debounce = s.pbu.debounce
  due : t.due = s.due
  freeCount : t.freeCount = s.freeCount
  askTag : t.askTag = s.askTag

/-! ## Reflexive, transitive, and one within another -/

theorem State.OnlyLinks.refl (s : State) : s.OnlyLinks s := ⟨_, rfl⟩
theorem State.OnlySched.refl (s : State) : s.OnlySched s := ⟨_, rfl⟩
theorem State.OnlyQueues.refl (s : State) : s.OnlyQueues s := ⟨_, _, rfl⟩
theorem State.OnlyPlan.refl (s : State) : s.OnlyPlan s := ⟨_, _, _, _, rfl⟩
theorem State.OnlyRequest.refl (s : State) : s.OnlyRequest s := ⟨_, _, _, rfl⟩
theorem State.OnlyReceive.refl (s : State) : s.OnlyReceive s := ⟨_, _, _, rfl⟩
theorem State.OnlyLevels.refl (s : State) : s.OnlyLevels s := ⟨_, _, _, rfl⟩
theorem State.Kept.refl (s : State) : s.Kept s := ⟨rfl, rfl, rfl, rfl, rfl, rfl⟩
theorem State.Held.refl (s : State) : s.Held s := ⟨.refl s, rfl, rfl, rfl, rfl, rfl⟩

theorem State.OnlyLinks.trans {s t u : State} (h : s.OnlyLinks t) (k : t.OnlyLinks u) : s.OnlyLinks u := by
  obtain ⟨_, rfl⟩ := h
  obtain ⟨_, rfl⟩ := k
  exact ⟨_, rfl⟩

theorem State.OnlyQueues.trans {s t u : State} (h : s.OnlyQueues t) (k : t.OnlyQueues u) : s.OnlyQueues u := by
  obtain ⟨_, _, rfl⟩ := h
  obtain ⟨_, _, rfl⟩ := k
  exact ⟨_, _, rfl⟩

theorem State.OnlyPlan.trans {s t u : State} (h : s.OnlyPlan t) (k : t.OnlyPlan u) : s.OnlyPlan u := by
  obtain ⟨_, _, _, _, rfl⟩ := h
  obtain ⟨_, _, _, _, rfl⟩ := k
  exact ⟨_, _, _, _, rfl⟩

theorem State.OnlyRequest.trans {s t u : State} (h : s.OnlyRequest t) (k : t.OnlyRequest u) : s.OnlyRequest u := by
  obtain ⟨_, _, _, rfl⟩ := h
  obtain ⟨_, _, _, rfl⟩ := k
  exact ⟨_, _, _, rfl⟩

theorem State.OnlyReceive.trans {s t u : State} (h : s.OnlyReceive t) (k : t.OnlyReceive u) : s.OnlyReceive u := by
  obtain ⟨_, _, _, rfl⟩ := h
  obtain ⟨_, _, _, rfl⟩ := k
  exact ⟨_, _, _, rfl⟩

theorem State.OnlyLevels.trans {s t u : State} (h : s.OnlyLevels t) (k : t.OnlyLevels u) : s.OnlyLevels u := by
  obtain ⟨_, _, _, rfl⟩ := h
  obtain ⟨_, _, _, rfl⟩ := k
  exact ⟨_, _, _, rfl⟩

theorem State.Kept.trans {s t u : State} (h : s.Kept t) (k : t.Kept u) : s.Kept u :=
  ⟨k.running.trans h.running, k.settings.trans h.settings, k.pending.trans h.pending, k.lineA.trans h.lineA,
   k.lineB.trans h.lineB, k.target.trans h.target⟩

theorem State.Held.trans {s t u : State} (h : s.Held t) (k : t.Held u) : s.Held u :=
  ⟨h.toKept.trans k.toKept, k.effective.trans h.effective, k.debounce.trans h.debounce, k.due.trans h.due,
   k.freeCount.trans h.freeCount, k.askTag.trans h.askTag⟩

theorem State.OnlyLinks.queues {s t : State} (h : s.OnlyLinks t) : s.OnlyQueues t := by
  obtain ⟨_, rfl⟩ := h
  exact ⟨_, _, rfl⟩

theorem State.OnlySched.queues {s t : State} (h : s.OnlySched t) : s.OnlyQueues t := by
  obtain ⟨_, rfl⟩ := h
  exact ⟨_, _, rfl⟩

theorem State.OnlyQueues.plan {s t : State} (h : s.OnlyQueues t) : s.OnlyPlan t := by
  obtain ⟨_, _, rfl⟩ := h
  exact ⟨_, _, _, _, rfl⟩

theorem State.OnlyLinks.request {s t : State} (h : s.OnlyLinks t) : s.OnlyRequest t := by
  obtain ⟨_, rfl⟩ := h
  exact ⟨_, _, _, rfl⟩

theorem State.OnlyLinks.receive {s t : State} (h : s.OnlyLinks t) : s.OnlyReceive t := by
  obtain ⟨_, rfl⟩ := h
  exact ⟨_, _, _, rfl⟩

theorem State.OnlyPlan.held {s t : State} (h : s.OnlyPlan t) : s.Held t := by
  obtain ⟨_, _, _, _, rfl⟩ := h
  exact ⟨⟨rfl, rfl, rfl, rfl, rfl, rfl⟩, rfl, rfl, rfl, rfl, rfl⟩

theorem State.OnlyQueues.held {s t : State} (h : s.OnlyQueues t) : s.Held t := h.plan.held

theorem State.OnlyLinks.held {s t : State} (h : s.OnlyLinks t) : s.Held t := h.queues.held

theorem State.OnlyRequest.held {s t : State} (h : s.OnlyRequest t) : s.Held t := by
  obtain ⟨_, _, _, rfl⟩ := h
  exact ⟨⟨rfl, rfl, rfl, rfl, rfl, rfl⟩, rfl, rfl, rfl, rfl, rfl⟩

theorem State.OnlyReceive.held {s t : State} (h : s.OnlyReceive t) : s.Held t := by
  obtain ⟨_, _, _, rfl⟩ := h
  exact ⟨⟨rfl, rfl, rfl, rfl, rfl, rfl⟩, rfl, rfl, rfl, rfl, rfl⟩

theorem State.OnlyLevels.held {s t : State} (h : s.OnlyLevels t) : s.Held t := by
  obtain ⟨_, _, _, rfl⟩ := h
  exact ⟨⟨rfl, rfl, rfl, rfl, rfl, rfl⟩, rfl, rfl, rfl, rfl, rfl⟩

/-- A footprint closed under composition covers a left fold whose every step it covers. -/
theorem foldl_covered {α : Type} (R : State → State → Prop) (refl : ∀ s, R s s)
    (trans : ∀ {s t u}, R s t → R t u → R s u) (f : State → α → State) (h : ∀ s x, R s (f s x)) (xs : List α) (s : State) :
    R s (xs.foldl f s) := by
  induction xs generalizing s with
  | nil => exact refl s
  | cons x xs ih => exact trans (h s x) (ih (f s x))

/-! ## Shared operations -/

theorem State.raiseAll_only (s : State) (f : BitVec 8) : s.OnlyLinks (s.raiseAll f) := ⟨_, rfl⟩

theorem State.count_only (s : State) (t : TenantId) (n : CounterName) : s.OnlyLinks (s.count t n) := ⟨_, rfl⟩

theorem State.countAll_only (s : State) (cs : List (TenantId × CounterName)) : s.OnlyLinks (s.countAll cs) :=
  foldl_covered _ .refl .trans _ (fun s _ => s.count_only _ _) cs s

theorem State.startTransmitters_only (s : State) : s.OnlyLinks s.startTransmitters := ⟨_, rfl⟩

theorem State.refill_only (s : State) : s.OnlySched s.refill := ⟨_, rfl⟩

/-- FORM_CAPACITY changes the hop capacity, the credits and the notices (R140, R143). -/
theorem State.formCapacity_only (s : State) : s.OnlyQueues s.formCapacity := by
  unfold State.formCapacity
  dsimp only
  split
  · exact .refl s
  · exact ⟨_, _, rfl⟩

/-- C afresh is the sum over the units in service (R140). -/
@[simp] theorem State.formCapacity_capacity (s : State) : s.formCapacity.sched.capacity = s.capacityNow := by
  unfold State.formCapacity
  dsimp only
  split
  · rename_i h
    exact h.symm
  · rfl

/-- Forming C afresh takes no unit into service or out of it (R140). -/
@[simp] theorem State.formCapacity_now (s : State) : s.formCapacity.capacityNow = s.capacityNow := by
  obtain ⟨_, _, h⟩ := s.formCapacity_only
  rw [h]
  rfl

/-- C formed afresh a second time changes nothing (R140, R143). -/
theorem State.formCapacity_idem (s : State) : s.formCapacity.formCapacity = s.formCapacity := by
  have h : ∀ x : State, x.capacityNow = x.sched.capacity → x.formCapacity = x := by
    intro x h
    unfold State.formCapacity
    exact if_pos h
  exact h _ (by simp)

theorem State.planFlag_only (s : State) (es : List Entry) : s.OnlyLinks (s.planFlag es) := by
  unfold State.planFlag
  split
  · exact s.raiseAll_only _
  · exact .refl s

theorem State.addEntry_only (s : State) (e : Entry) : s.OnlyRequest (s.addEntry e) := by
  obtain ⟨_, h⟩ := (s.setPlc fun p => { p with plan := p.plan ++ [e] }).planFlag_only [e]
  exact ⟨_, _, _, h⟩

theorem State.eraseEntries_only (s : State) (p : Entry → Bool) : s.OnlyPlan (s.eraseEntries p) := by
  obtain ⟨_, h⟩ := (s.setPlc fun c => { c with plan := c.plan.filter fun e => !p e }).planFlag_only (s.plc.plan.filter p)
  exact ⟨_, _, _, _, h⟩

theorem State.afterRemoval_only (s : State) (e : Entry) : s.OnlyPlan (s.afterRemoval e) := by
  unfold State.afterRemoval
  split
  · exact ⟨_, _, _, _, rfl⟩
  · exact .refl s
  · split
    · split
      · exact ⟨_, _, _, _, rfl⟩
      · exact .refl s
    · exact .refl s

/-- The removal of entries touches the plan, the draining marks, contexts in PROPOSING, the hop capacity and the notices. -/
theorem State.removeEntries_only (s : State) (p : Entry → Bool) : s.OnlyPlan (s.removeEntries p) :=
  ((s.eraseEntries_only p).trans (foldl_covered _ .refl .trans _ State.afterRemoval_only _ _)).trans
    (State.formCapacity_only _).plan

theorem State.offer_only (s : State) (k : CarrierId) (m : Message) : s.OnlyRequest (s.offer k m) := ⟨_, _, _, rfl⟩

theorem State.offerAnchor_only (s : State) (m : Message) : s.OnlyRequest (s.offerAnchor m) := by
  unfold State.offerAnchor
  split
  · exact s.offer_only _ m
  · exact .refl s

/-- A LINK request adds at most an entry and a message (R83). -/
theorem State.linkRequest_only (s : State) (c : LinkChange) : s.OnlyRequest (s.linkRequest c) := by
  unfold State.linkRequest
  split
  · exact .refl s
  · have h : s.OnlyRequest s.bumpTag := ⟨s.scu, _, s.links, rfl⟩
    exact (h.trans (State.addEntry_only _ _)).trans (State.offerAnchor_only _ _)

theorem State.requestPromote_only (s : State) (k : CarrierId) : s.OnlyRequest (s.requestPromote k) := by
  unfold State.requestPromote
  split
  · split
    · exact s.linkRequest_only _
    · exact .refl s
  · exact .refl s

theorem State.requestRevert_only (s : State) (r : Substitution) (b : Bool) : s.OnlyRequest (s.requestRevert r b) := by
  unfold State.requestRevert
  split
  · exact s.linkRequest_only _
  · exact .refl s

theorem State.requestRevertsOf_only (s : State) (k : CarrierId) : s.OnlyRequest (s.requestRevertsOf k) :=
  foldl_covered _ .refl .trans _ (fun s r => s.requestRevert_only r (s.revertNow r)) _ s

theorem State.takeRxBlock_only (u : UnitId) (s : State) (b : RxBlock) : s.OnlyReceive (s.takeRxBlock u b) := by
  unfold State.takeRxBlock
  split
  · exact .refl s
  · exact .refl s
  · rename_i t l seq fs _
    have h : s.OnlyReceive ({ s with rxa := (s.rxa.takeBlock s.rxEnv t l seq fs).1 }.countTraffic u 1) := ⟨_, _, _, rfl⟩
    exact h.trans (State.countAll_only _ _).receive

theorem State.reassemble_only (s : State) (u : UnitId) (bs : List RxBlock) : s.OnlyReceive (s.reassemble u bs) :=
  foldl_covered _ .refl .trans _ (State.takeRxBlock_only u) bs s

theorem State.clearHold_only (s : State) (u : UnitId) : s.OnlyReceive (s.clearHold u) := ⟨_, s.cpm, s.links, rfl⟩

theorem State.releaseHold_only (s : State) (u : UnitId) : s.OnlyReceive (s.releaseHold u) := by
  unfold State.releaseHold
  split
  · exact (s.clearHold_only _).trans (State.reassemble_only _ _ _)
  · exact .refl s

theorem State.intoHold_only (s : State) (u : UnitId) (f : HeldFrame) : s.OnlyReceive (s.intoHold u f) := by
  unfold State.intoHold
  split
  · exact ⟨_, _, _, rfl⟩
  · exact s.reassemble_only u _

/-- Received frames reach the Receive Assembler, the traffic counts and the tenants' counters only (R175–R181). -/
theorem State.receiveFrame_only (s : State) (k : CarrierId) (h : Option Header) (bs : List RxBlock) :
    s.OnlyReceive (s.receiveFrame k h bs) := by
  unfold State.receiveFrame
  split
  · exact .refl s
  · split
    · dsimp only
      split
      · unfold State.pairFrame
        split
        · exact s.intoHold_only _ _
        · split
          · exact (s.releaseHold_only _).trans (State.intoHold_only _ _ _)
          · split
            · exact (s.clearHold_only _).trans (State.reassemble_only _ _ _)
            · exact (s.releaseHold_only _).trans (State.intoHold_only _ _ _)
      · exact s.reassemble_only _ _
    · split
      · unfold State.pairBad
        split
        · split
          · exact s.releaseHold_only _
          · exact .refl s
        · exact .refl s
      · exact .refl s

theorem State.loseUnit_only (s : State) (u : UnitId) : s.OnlyQueues (s.loseUnit u) := by
  unfold State.loseUnit
  split
  · have h : s.OnlyQueues { s with sched := (s.sched.flushUnit u).1 } := ⟨_, _, rfl⟩
    exact ((h.trans (State.countAll_only _ _).queues).trans (State.formCapacity_only _)).trans (State.refill_only _).queues
  · exact s.formCapacity_only

theorem State.closeIfTaken_only (s : State) (u : UnitId) : s.OnlySched (s.closeIfTaken u) := by
  unfold State.closeIfTaken
  split
  · split
    · exact ⟨_, rfl⟩
    · exact .refl s
  · exact .refl s

theorem State.settleCheck_only (s : State) :
    ∃ b l, s.settleCheck = { s with pbu := { s.pbu with settling := b }, links := l } := by
  unfold State.settleCheck
  split
  · exact ⟨_, _, rfl⟩
  · exact ⟨_, _, rfl⟩

theorem State.stallDiscard_only (s : State) (t : TenantId) (l : LaneIx) (p : Packet) : s.OnlyQueues (s.stallDiscard t l p) :=
  ⟨_, _, rfl⟩

/-- STALL_LIMIT acts on the lane, the pool and the tenant's counter (R168–R170). -/
theorem State.stallLimit_only (s : State) (t : TenantId) (l : LaneIx) : s.OnlyQueues (s.stallLimit t l) := by
  unfold State.stallLimit
  dsimp only
  split
  · exact .refl s
  · split
    · exact .refl s
    · have h : s.OnlyQueues { s with sched := s.sched.setLane t l fun z => { z with timer := 0 } } := ⟨_, _, rfl⟩
      split
      · split
        · exact h.trans (State.stallDiscard_only _ _ _ _)
        · exact h
      · split
        · exact h.trans (State.stallDiscard_only _ _ _ _)
        · exact h

theorem State.arrival_only (s : State) (t : TenantId) (l : LaneIx) (d : List Byte) : s.OnlyQueues (s.arrival t l d) := by
  unfold State.arrival
  dsimp only
  split
  · exact ⟨_, _, rfl⟩
  · split
    · exact ⟨_, _, rfl⟩
    · exact ⟨_, _, rfl⟩

/-! ## Short mean, tenant reset, frames not heard -/

theorem State.handShortMean_only (s : State) (k : CarrierId) : s.OnlyPlan (s.handShortMean k) := by
  unfold State.handShortMean
  split
  · exact ⟨_, s.plc, s.sched, s.links, rfl⟩
  · exact .refl s

theorem State.resetLanes_only (s : State) (t : TenantId) : s.OnlySched (s.resetLanes t) := by
  unfold State.resetLanes
  dsimp only
  split <;> exact ⟨_, rfl⟩

/-- A frame on a carrier in DOWN, WAKING or HOLDOFF changes nothing. -/
theorem State.takeFrame_unheard {s : State} {k : CarrierId} (h : (s.link k).hears = false) (x : Option Header) (bs : List RxBlock) :
    s.takeFrame k x bs = s := by
  simp [State.takeFrame, h]

/-- A frame on a carrier in ACQUIRE, LOCKED or PARKED is taken. -/
theorem State.takeFrame_heard {s : State} {k : CarrierId} (h : (s.link k).hears = true) (x : Option Header) (bs : List RxBlock) :
    s.takeFrame k x bs = s.hearFrame k x bs := by
  simp [State.takeFrame, h]

/-- A block is idle exactly where the modem marks it good and it has none of the four fields (R12, R175). -/
theorem classify_eq_idle {b : RxBlock} :
    classify b = .idle ↔ b.good = true ∧ b.tenant = none ∧ b.lane = none ∧ b.seq = none ∧ b.frags = [] := by
  obtain ⟨good, tenant, lane, seq, frags, payload⟩ := b
  cases good <;> cases tenant <;> cases lane <;> cases seq <;> cases frags <;> simp [classify, isBlank] <;>
    (repeat' split) <;> simp

/-- The block chosen for a position is good exactly where one of the copies is (R177). -/
theorem isSound_chooseCopy (a b : RxBlock) : isSound (chooseCopy a b) = (isSound a || isSound b) := by
  unfold chooseCopy
  split <;> simp_all

/-- A record stands after the closing test only where it stood before and some joined member has not taken it (R152). -/
theorem State.closeIfTaken_record {s : State} {u : UnitId} {r : PairRecord} (h : ((s.closeIfTaken u).sched.staging.get u).record = some r) :
    (s.sched.staging.get u).record = some r ∧ ∃ m ∈ s.members u, s.isJoined m = true ∧ m ∉ r.takenBy := by
  unfold State.closeIfTaken at h
  split at h
  · split at h
    · simp [Sched.closeRecord] at h
    · simp_all
  · simp_all

end Sys2Proof.Machine
end

