-- ==== Sys2Proof/Laws/Links.lean ====
section
/-! SUPPORT. What the events of a running part keep: a change of link state and everything it hands on, the apply of entries, a
sample, a message, a frame, a boundary. -/

namespace Sys2Proof.Machine

/-! ## A change of link state (R38) -/

theorem State.setLevel_only (s : State) (k : CarrierId) (n : Nat) : s.OnlyLevels (s.setLevel k n) := by
  unfold State.setLevel
  dsimp only
  split
  · exact ⟨s.scu, _, s.out, rfl⟩
  · exact ⟨s.scu, _, _, rfl⟩

theorem State.settleCheck_held (s : State) : s.Held s.settleCheck := by
  obtain ⟨_, _, h⟩ := s.settleCheck_only
  rw [h]
  exact ⟨⟨rfl, rfl, rfl, rfl, rfl, rfl⟩, rfl, rfl, rfl, rfl, rfl⟩

theorem State.poolHopDown_held (s : State) : s.Held s.poolHopDown := by
  unfold State.poolHopDown
  dsimp only
  split <;> exact ⟨⟨rfl, rfl, rfl, rfl, rfl, rfl⟩, rfl, rfl, rfl, rfl, rfl⟩

theorem State.adopt_held (s : State) (k : CarrierId) : s.Held (s.adopt k) := by
  unfold State.adopt
  split
  · split <;> exact ⟨⟨rfl, rfl, rfl, rfl, rfl, rfl⟩, rfl, rfl, rfl, rfl, rfl⟩
  · exact .refl s

theorem State.goHopUp_held (s : State) (k : CarrierId) : s.Held (s.goHopUp k) :=
  (s.adopt_held k).trans (State.raiseAll_only _ _).held

/-- HOP_DOWN keeps what a change of link state keeps (R7). -/
theorem State.goHopDown_held (s : State) : s.Held s.goHopDown := by
  have h1 : s.Held s.planHopDown := by
    refine (s.removeEntries_only fun _ => true).held.trans ?_
    exact ⟨⟨rfl, rfl, rfl, rfl, rfl, rfl⟩, rfl, rfl, rfl, rfl, rfl⟩
  have h2 : ∀ a : State, a.Held a.viewHopDown := fun _ => ⟨⟨rfl, rfl, rfl, rfl, rfl, rfl⟩, rfl, rfl, rfl, rfl, rfl⟩
  have h3 : ∀ a : State, a.Held (a.creditHopDown.raiseAll flagHop) :=
    fun _ => ⟨⟨rfl, rfl, rfl, rfl, rfl, rfl⟩, rfl, rfl, rfl, rfl, rfl⟩
  exact (((h1.trans (h2 _)).trans (State.poolHopDown_held _)).trans (State.formCapacity_only _).held).trans (h3 _)

theorem State.reanchor_held (s : State) : s.Held s.reanchor := by
  unfold State.reanchor
  dsimp only
  have h : s.Held { s with htu := { s.htu with anchor := s.lowestLocked } } :=
    ⟨⟨rfl, rfl, rfl, rfl, rfl, rfl⟩, rfl, rfl, rfl, rfl, rfl⟩
  split
  · exact h.trans (State.goHopUp_held _ _)
  · exact h.trans (State.goHopDown_held _)
  · exact h
  · exact h

theorem State.unitUnlocked_only (s : State) (u : UnitId) : s.OnlyPlan (s.unitUnlocked u) := by
  unfold State.unitUnlocked
  dsimp only
  refine .trans ?_ (State.removeEntries_only _ _)
  exact ⟨_, _, s.sched, s.links, rfl⟩

theorem State.unlockUnit_only (s : State) (u : UnitId) : s.OnlyPlan (s.unlockUnit u) := by
  unfold State.unlockUnit
  split
  · exact .refl s
  · exact s.unitUnlocked_only u

theorem State.unlockService_only (s : State) (u : UnitId) : s.OnlyQueues (s.unlockService u) := by
  unfold State.unlockService
  split
  · exact s.formCapacity_only
  · exact s.loseUnit_only u

theorem State.clearDwell_held (s : State) (k : CarrierId) : s.Held (s.clearDwell k) :=
  ⟨⟨rfl, rfl, rfl, rfl, rfl, rfl⟩, rfl, rfl, rfl, rfl, rfl⟩

/-- What a loss of lock hands on keeps phase, settings, modes, outputs left to later steps (R31, R38). -/
theorem State.afterUnlock_held (s : State) (k : CarrierId) : s.Held (s.afterUnlock k) := by
  unfold State.afterUnlock
  split
  · exact s.reanchor_held
  · rename_i u _
    have h1 := (s.releaseHold_only u).held.trans ((s.releaseHold u).unlockUnit_only u).held
    have h2 := (h1.trans (State.unlockService_only _ u).held).trans (State.closeIfTaken_only _ u).queues.held
    have h3 := (h2.trans (State.reanchor_held _)).trans (State.clearDwell_held _ k)
    exact (h3.trans (State.requestRevertsOf_only _ k).held).trans (State.requestPromote_only _ k).held

theorem State.firstLock_held (s : State) (k : CarrierId) (u : UnitId) : s.Held (s.firstLock k u) := by
  unfold State.firstLock
  split
  · exact .refl s
  · exact ⟨⟨rfl, rfl, rfl, rfl, rfl, rfl⟩, rfl, rfl, rfl, rfl, rfl⟩

theorem State.fitLevel_only (s : State) (k : CarrierId) : s.OnlyLevels (s.fitLevel k) := by
  unfold State.fitLevel
  split
  · exact .refl s
  · exact s.setLevel_only k _

/-- What a lock hands on (R29, R111). -/
theorem State.afterLock_held (s : State) (k : CarrierId) : s.Held (s.afterLock k) := by
  unfold State.afterLock
  split
  · exact s.reanchor_held
  · rename_i u _
    have h := (s.firstLock_held k u).trans ((s.firstLock k u).fitLevel_only k).held
    exact (h.trans (State.reanchor_held _)).trans (State.requestRevertsOf_only _ k).held

theorem State.silence_only (s : State) (k : CarrierId) (now : LinkState) : s.OnlyRequest (s.silence k now) := by
  unfold State.silence
  split
  · exact ⟨_, s.plc, s.links, rfl⟩
  · exact .refl s

theorem State.freshTracker_held (s : State) (k : CarrierId) (now : LinkState) : s.Held (s.freshTracker k now) := by
  unfold State.freshTracker
  split
  · exact ⟨⟨rfl, rfl, rfl, rfl, rfl, rfl⟩, rfl, rfl, rfl, rfl, rfl⟩
  · exact .refl s

theorem State.handOn_held (s : State) (k : CarrierId) (was now : LinkState) : s.Held (s.handOn k was now) := by
  unfold State.handOn
  split
  · exact s.afterUnlock_held k
  · split
    · exact s.afterLock_held k
    · exact .refl s

/-- Every change of link state keeps phase, settings, supply-state input, modes, debounce count, expiries, free values and the ask
tag counter (R38). -/
theorem State.changeLink_held (s : State) (k : CarrierId) (f : Clc → Clc) : s.Held (s.changeLink k f) := by
  have h1 : s.Held ((s.setClc k f).raiseAll flagCarrier) := ⟨⟨rfl, rfl, rfl, rfl, rfl, rfl⟩, rfl, rfl, rfl, rfl, rfl⟩
  exact (((h1.trans (State.silence_only _ k _).held).trans (State.freshTracker_held _ k _)).trans
    (State.handOn_held _ k _ _)).trans (State.settleCheck_held _)

theorem State.command_held (s : State) (k : CarrierId) (c : ModemCommand) : s.Held (s.command k c) :=
  ⟨⟨rfl, rfl, rfl, rfl, rfl, rfl⟩, rfl, rfl, rfl, rfl, rfl⟩

theorem State.setClc_held (s : State) (k : CarrierId) (f : Clc → Clc) : s.Held (s.setClc k f) :=
  ⟨⟨rfl, rfl, rfl, rfl, rfl, rfl⟩, rfl, rfl, rfl, rfl, rfl⟩

/-! ## Starts, timeouts, faults -/

theorem State.tryStart_held (s : State) (k : CarrierId) (m : Bool) {t : State} (h : s.tryStart k m = some t) : s.Held t := by
  unfold State.tryStart at h
  split at h
  · rename_i n _
    simp only [Option.some.injEq] at h
    subst h
    refine .trans ?_ (State.changeLink_held _ _ _)
    exact ⟨⟨rfl, rfl, rfl, rfl, rfl, rfl⟩, rfl, rfl, rfl, rfl, rfl⟩
  · exact absurd h (by simp)

/-- A start is decided by the room alone (R110). -/
theorem State.tryStart_isSome (s : State) (k : CarrierId) (m : Bool) : (s.tryStart k m).isSome = s.startGrant.isSome := by
  unfold State.tryStart
  split <;> simp_all

theorem State.startOrStay_held (s : State) (k : CarrierId) (m : Bool) : s.Held (s.startOrStay k m) := by
  unfold State.startOrStay
  cases h : s.tryStart k m with
  | none => exact .refl s
  | some t => exact s.tryStart_held k m h

theorem State.lockIfReady_held (s : State) (k : CarrierId) : s.Held (s.lockIfReady k) := by
  unfold State.lockIfReady
  dsimp only
  split
  · exact s.changeLink_held k _
  · exact .refl s

theorem State.unlockIfLost_held (s : State) (k : CarrierId) : s.Held (s.unlockIfLost k) := by
  unfold State.unlockIfLost
  dsimp only
  split
  · exact s.changeLink_held k _
  · exact .refl s

theorem State.faultCarrier_held (s : State) (k : CarrierId) : s.Held (s.faultCarrier k) :=
  (s.command_held k _).trans (State.changeLink_held _ _ _)

theorem State.parkCarrier_held (s : State) (k : CarrierId) : s.Held (s.parkCarrier k) := by
  unfold State.parkCarrier
  split
  · exact (s.command_held k _).trans (State.changeLink_held _ _ _)
  · exact (s.command_held k _).trans (State.changeLink_held _ _ _)
  · exact s.changeLink_held k _
  all_goals exact .refl s

theorem State.wakingTimeout_held (s : State) (k : CarrierId) : s.Held (s.wakingTimeout k) := by
  unfold State.wakingTimeout
  split
  · exact s.faultCarrier_held k
  · exact .refl s

theorem State.acquireTimeout_held (s : State) (k : CarrierId) : s.Held (s.acquireTimeout k) := by
  unfold State.acquireTimeout
  dsimp only
  split
  · refine (s.command_held k .mute).trans ?_
    split
    · split
      · have h : (s.command k .mute).Held ((s.command k .mute).setPenalty k) :=
          ⟨⟨rfl, rfl, rfl, rfl, rfl, rfl⟩, rfl, rfl, rfl, rfl, rfl⟩
        exact h.trans (State.changeLink_held _ _ _)
      · exact State.changeLink_held _ _ _
    · exact State.changeLink_held _ _ _
  · exact .refl s

theorem State.holdoffEnd_held (s : State) (k : CarrierId) : s.Held (s.holdoffEnd k) := by
  unfold State.holdoffEnd
  split
  · split
    · rename_i h
      exact s.tryStart_held k _ h
    · exact s.setClc_held k _
  · exact .refl s

theorem State.faultRetry_held (s : State) (k : CarrierId) : s.Held (s.faultRetry k) := by
  unfold State.faultRetry
  dsimp only
  split
  · exact (s.command_held k _).trans (State.changeLink_held _ _ _)
  · exact .refl s

theorem State.recoveryAttempt_held (s : State) : s.Held s.recoveryAttempt := by
  unfold State.recoveryAttempt
  split
  · split
    · split
      · rename_i t h
        have g : t.Held { t with htu := { t.htu with recovery := 0 } } :=
          ⟨⟨rfl, rfl, rfl, rfl, rfl, rfl⟩, rfl, rfl, rfl, rfl, rfl⟩
        exact (s.tryStart_held _ _ h).trans g
      · exact .refl s
    · exact .refl s
  · exact .refl s

theorem State.modemReady_held (s : State) (k : CarrierId) : s.Held (s.modemReady k) := by
  unfold State.modemReady
  dsimp only
  split
  · refine (s.command_held k (.setCombiner (s.ftr.get k).mode)).trans ?_
    split
    · split
      · rename_i h
        exact (State.setClc_held _ k _).trans (State.tryStart_held _ _ _ h)
      · exact State.changeLink_held _ _ _
    · exact State.changeLink_held _ _ _
  · exact .refl s

theorem State.energy_held (s : State) (k : CarrierId) : s.Held (s.energy k) := by
  unfold State.energy
  split
  · split
    · exact s.startOrStay_held k _
    · split
      · exact s.startOrStay_held k _
      · exact .refl s
  · exact .refl s

theorem State.modemFault_held (s : State) (k : CarrierId) : s.Held (s.modemFault k) := by
  unfold State.modemFault
  dsimp only
  split
  · split
    · exact s.setClc_held k _
    · exact .refl s
  · exact s.faultCarrier_held k

/-! ## The apply of entries (R97) -/

theorem State.setActing_held (s : State) (k : CarrierId) (r : ActingRole) : s.Held (s.setActing k r) :=
  ⟨⟨rfl, rfl, rfl, rfl, rfl, rfl⟩, rfl, rfl, rfl, rfl, rfl⟩

theorem State.loseUnitOf_only (s : State) (k : CarrierId) : s.OnlyQueues (s.loseUnitOf k) := by
  unfold State.loseUnitOf
  split
  · exact s.loseUnit_only _
  · exact .refl s

theorem State.applyPromote_held (s : State) (c t : CarrierId) : s.Held (s.applyPromote c t) := by
  unfold State.applyPromote
  dsimp only
  split
  · have h : s.Held (((s.setActing c .traffic).setActing t .displaced).addSubstitution c t) :=
      ⟨⟨rfl, rfl, rfl, rfl, rfl, rfl⟩, rfl, rfl, rfl, rfl, rfl⟩
    split
    · exact h.trans (State.loseUnitOf_only _ _).held
    · exact h.trans (State.formCapacity_only _).held
  · exact .refl s

theorem State.applyRevert_held (s : State) (c t : CarrierId) : s.Held (s.applyRevert c t) := by
  unfold State.applyRevert
  dsimp only
  split
  · exact ⟨⟨rfl, rfl, rfl, rfl, rfl, rfl⟩, rfl, rfl, rfl, rfl, rfl⟩
  · exact .refl s

theorem State.endDraining_only (s : State) (k : CarrierId) (b : Bool) : s.OnlyPlan (s.endDraining k b) := by
  unfold State.endDraining
  split
  · split
    · rename_i u _ _
      have h : s.OnlyPlan (s.clearDraining u) := ⟨s.ade, _, s.sched, s.links, rfl⟩
      exact h.trans (State.formCapacity_only _).plan
    · exact .refl s
  · exact .refl s

theorem State.flushDraining_only (s : State) (k : CarrierId) : s.OnlyQueues (s.flushDraining k) := by
  unfold State.flushDraining
  split
  · exact s.loseUnitOf_only k
  · exact .refl s

theorem State.applyChange_held (s : State) (c : Change) : s.Held (s.applyChange c) := by
  unfold State.applyChange
  split
  · have h : ∀ f, s.Held (s.setPlc f) := fun f => ⟨⟨rfl, rfl, rfl, rfl, rfl, rfl⟩, rfl, rfl, rfl, rfl, rfl⟩
    exact (h _).trans (State.formCapacity_only _).held
  · exact .refl s
  · exact ((s.flushDraining_only _).held.trans (State.parkCarrier_held _ _)).trans (State.endDraining_only _ _ _).held
  · split
    · exact s.startOrStay_held _ _
    · exact .refl s
  · exact s.applyPromote_held _ _
  · rename_i k t
    have h := (s.applyRevert_held k t).trans ((s.applyRevert k t).flushDraining_only k).held
    exact (h.trans (State.endDraining_only _ _ _).held).trans (State.formCapacity_only _).held

theorem State.applyEntry_held (s : State) (e : Entry) : s.Held (s.applyEntry e) :=
  (s.eraseEntries_only _).held.trans (State.applyChange_held _ _)

theorem State.applyUpTo_held (h : Hsn) (n : Nat) (s : State) : s.Held (State.applyUpTo h n s) := by
  induction n generalizing s with
  | zero => exact .refl s
  | succ n ih =>
    unfold State.applyUpTo
    split
    · exact (s.applyEntry_held _).trans (ih _)
    · exact .refl s

theorem State.applyDue_held (s : State) (h : Hsn) : s.Held (s.applyDue h) := State.applyUpTo_held h _ s

end Sys2Proof.Machine
end

