-- ==== Sys2Proof/Laws/Events.lean ====
section
/-! SUPPORT. How an event closes: free transmitters are started at its end, which changes nothing where no link and no egress buffer
has changed. -/

namespace Sys2Proof.Machine

/-- The C that the scheduler forms is the sum of the capacity law (R140). -/
theorem State.capacityNow_eq (s : State) : s.capacityNow = s.hopCapacity := by
  unfold State.capacityNow State.hopCapacity
  apply congrArg Four.sum
  apply Four.ext_get
  intro u
  simp [State.inService, State.unitJoined, State.actsTraffic, State.isDraining, State.unitBlocks, Bool.and_eq_true, and_assoc]

/-- Behind a formation of C, C is the sum of the capacity law (R140). -/
theorem State.formCapacity_law (s : State) : s.formCapacity.sched.capacity = s.formCapacity.hopCapacity := by
  rw [← State.capacityNow_eq]
  simp

/-- A part is settled exactly when starting a transmitter changes no link. -/
theorem State.settled_iff (s : State) :
    s.settled ↔ ∀ j, startTransmitter (s.rxa.egress.get j) (s.links.get j) = s.links.get j := by
  unfold State.settled
  constructor
  · intro h j
    have := congrArg (fun t => t.links.get j) h
    simpa using this
  · intro h
    have : Four.build (fun t => startTransmitter (s.rxa.egress.get t) (s.links.get t)) = s.links := by
      apply Four.ext_get
      intro i
      simp [h]
    show { s with links := _ } = s
    rw [this]

/-- Starting a transmitter twice is starting it once. -/
theorem startTransmitter_idem (e : List EgressPacket) (x : Tli) :
    startTransmitter e (startTransmitter e x) = startTransmitter e x := by
  unfold startTransmitter
  cases x with
  | mk up tx reply notice commands counters raised mask sent =>
    cases up <;> cases tx <;> cases reply <;> cases notice <;> cases e <;> rfl

/-- Every event leaves the part settled. -/
theorem State.startTransmitters_settled (s : State) : s.startTransmitters.settled := by
  rw [State.settled_iff]
  intro j
  simp [startTransmitter_idem]

/-- A settled part whose links and egress buffers an event has left alone needs no transmitter started. -/
theorem State.settle_of {s t : State} (h : s.settled) (links : t.links = s.links) (egress : t.rxa.egress = s.rxa.egress) :
    t.startTransmitters = t := by
  rw [State.settled_iff] at h
  apply (State.settled_iff t).2
  intro j
  rw [links, egress]
  exact h j

/-- An event of a running part: what it does, then the transmitters. -/
theorem event_running {s : State} (f : State → State) (h : s.running = true) :
    event s f = .next (f { s with out := [] }).startTransmitters := by
  simp [event, anyEvent, h]

/-- An event that touches no link and no egress buffer. -/
theorem event_quiet {s : State} (f : State → State) (h : s.running = true) (settled : s.settled)
    (links : (f { s with out := [] }).links = s.links) (egress : (f { s with out := [] }).rxa.egress = s.rxa.egress) :
    event s f = .next (f { s with out := [] }) := by
  rw [event_running f h, State.settle_of settled links egress]

end Sys2Proof.Machine
end

