-- ==== Sys2Proof/Tests/Slice0.lean ====
section
/-! SUPPORT. Tests: ill-formed commands are refused; for every statement with hypotheses a state and operands that meet them, clause by
clause; a few values worked out in the spec. -/

namespace Sys2Proof.Machine.Tests

set_option maxRecDepth 20000
set_option Elab.async false

/-! ## Small states -/

/-- A part that runs on the built-in defaults, with no carrier powered. -/
def base : State :=
  { State.reset with running := true, settings := defaultSettings, cpm := { Cpm.reset with acting := .of (some .traffic) },
                     pbu := { State.reset.pbu with level := .of 12 } }

/-- `s` with C as the capacity law has it. -/
def formed (s : State) : State := { s with sched := { s.sched with capacity := s.hopCapacity } }

/-- `s` with the controller of carrier `k` changed, and the anchor and the C that go with it. -/
def ctl (s : State) (k : CarrierId) (f : Clc → Clc) : State :=
  let t := { s with clc := s.clc.modify k f }
  formed { t with htu := { t.htu with anchor := t.lowestLocked } }

/-- Four LOCKED and joined carriers. -/
def live : State :=
  let c := { Clc.reset with link := .locked, joined := true, headerAligned := true, alignedRun := 8 }
  ctl { base with clc := .of c } 0 id

/-- `s` with an expiry left to a step of its own. -/
def owed (s : State) (e : Expiry) : State := { s with due := [e] }

/-- `s` with one plan entry. -/
def planned (s : State) (e : Entry) : State := { s with plc := { s.plc with plan := [e] } }

/-- `s` with the link of tenant 0 changed. -/
def linked (s : State) (f : Tli → Tli) : State := { s with links := s.links.modify 0 f }

/-- `s` with the context of unit 0 changed. -/
def adapting (s : State) (f : Ade → Ade) : State := { s with ade := s.ade.modify 0 f }

/-- A packet record of 65 bytes on lane 1 of tenant 0. -/
def packet : Packet := ⟨0, List.replicate 65 7, .shared, 0, 0, 0⟩

/-- `s` with lane 1 of tenant 0 changed. -/
def laned (s : State) (f : Lane → Lane) : State := { s with sched := s.sched.setLane 0 0 f }

/-- A staged block that carries 65 bytes' first part. -/
def block : Block := ⟨0, 0, 0, [⟨0, 64, true, false, 0, .excess, List.replicate 64 7⟩]⟩

/-- `s` with that block in the Other segment of unit 0. -/
def staged (s : State) : State :=
  { s with sched := { s.sched with staging := s.sched.staging.modify 0 fun g => { g with other := [block] } } }

/-- A mid-range sample, aligned on both branches or on none. -/
def sample (aligned : Bool) : SampleData := ⟨100, 100, 120, aligned, aligned, 0, 3⟩

/-- A header of the local superframe. -/
def header (q : Nat) (aligned drop : Bool) : Header := ⟨q, 0, 5, aligned, drop, false, none⟩

/-- Does command `c` of state `s` give a next state with the property? -/
def after (c : Instr) (s : State) (p : State → Bool) : Bool :=
  match exec c s with
  | .next t => p t
  | .fault _ => false
  | .refused _ => false

/-- A running part is steady where starting its transmitters changes nothing. -/
theorem steady_of {s : State} (h : (s.running && decide (s.startTransmitters = s)) = true) : s.steady := by
  simpa [State.steady, State.settled] using h

/-- A running part whose C is the sum over its units in service keeps the capacity law. -/
theorem capacityLaw_of {s : State} (h : (s.running && decide (s.sched.capacity = s.hopCapacity)) = true) : s.capacityLaw := by
  have g : s.running = true ∧ s.sched.capacity = s.hopCapacity := by simpa using h
  exact ⟨fun r => by simp [g.1] at r, g.2⟩

/-! ## Ill-formed commands are refused (WellFormed) -/


theorem test_illFormed_boundary_order : (Instr.superframeBoundary [.fade] false).wf = false := by decide +kernel

theorem test_illFormed_frame_profile : (Instr.frameReceived 0 (some (header 12 true false)) []).wf = false := by decide +kernel

theorem test_illFormed_frame_count : (Instr.frameReceived 0 none (List.replicate 97 ⟨true, none, none, none, [], List.replicate 64 0⟩)).wf = false := by decide +kernel

theorem test_illFormed_frame_payload : (Instr.frameReceived 0 none [⟨true, none, none, none, [], [0]⟩]).wf = false := by decide +kernel

theorem test_illFormed_hello_limit : (Instr.hello 0 0 0 ⟨.lead, 0, .full, 5, .of 0, .of 0, 0, 0⟩).wf = false := by decide +kernel

theorem test_illFormed_rx_profile : (Instr.proposeRxProfile 0 0 0 12).wf = false := by decide +kernel

theorem test_illFormed_promote_same : (Instr.proposeLink 0 0 (.promote 1 1)).wf = false := by decide +kernel

theorem test_illFormed_revert_same : (Instr.proposeLink 0 0 (.revert 2 2)).wf = false := by decide +kernel

theorem test_illFormed_delta_zero : (Instr.powerAsk 0 0 0 0).wf = false := by decide +kernel

theorem test_illFormed_delta_nine : (Instr.powerAsk 0 0 0 9).wf = false := by decide +kernel

theorem test_illFormed_set_level : (Instr.powerSet 0 (some 0) 0 16 .granted).wf = false := by decide +kernel

theorem test_illFormed_set_tag : (Instr.powerSet 0 none 0 3 .granted).wf = false := by decide +kernel

theorem test_illFormed_unknown_known : (Instr.unknownCommand 0 0x01 []).wf = false := by decide +kernel

theorem test_illFormed_unknown_long : (Instr.unknownCommand 0 0x77 (List.replicate 2048 0)).wf = false := by decide +kernel

/-- Operand bytes that no link frame can hold. -/
def tooLong : List Byte := List.replicate 2048 0

theorem test_illFormed_longArguments0 :
    (Instr.readCarrier 0 tooLong).wf = false ∧
    (Instr.readTrace 0 tooLong).wf = false ∧
    (Instr.readPlan 0 tooLong).wf = false ∧
    (Instr.readCapacity 0 tooLong).wf = false ∧
    (Instr.readPower 0 tooLong).wf = false ∧
    (Instr.readProvision 0 tooLong).wf = false ∧
    (Instr.readLane 0 tooLong).wf = false ∧
    (Instr.writeLane 0 tooLong).wf = false := by decide +kernel

theorem test_illFormed_longArguments1 :
    (Instr.setHold 0 tooLong).wf = false ∧
    (Instr.readCounters 0 tooLong).wf = false ∧
    (Instr.clearCounters 0 tooLong).wf = false ∧
    (Instr.setNoticeMask 0 tooLong).wf = false ∧
    (Instr.readNotices 0 tooLong).wf = false ∧
    (Instr.clearNotices 0 tooLong).wf = false ∧
    (Instr.resetTenant 0 tooLong).wf = false := by decide +kernel

theorem test_wellFormed_samples :
    (Instr.superframeBoundary allParts true).wf = true ∧ (Instr.frameReceived 0 (some (header 11 true false)) []).wf = true ∧
    (Instr.proposeLink 0 0 (.promote 1 2)).wf = true ∧ (Instr.powerAsk 0 0 0 8).wf = true ∧
    (Instr.powerSet 0 none 0 15 .mode).wf = true ∧ (Instr.unknownCommand 0 0x77 []).wf = true := by decide +kernel


/-! ## Values worked out in the spec -/

/-- The nine bytes "123456789". -/
def nine : List Byte := [0x31, 0x32, 0x33, 0x34, 0x35, 0x36, 0x37, 0x38, 0x39]

theorem test_crc16_of_nine_digits : crc16 nine = 0x29B1 := by decide +kernel
theorem test_crc32_of_nine_digits : crc32 nine = 0xCBF43926 := by decide +kernel

/-- An image of format 1: FOLLOW; TRAFFIC, MIRROR of 0, STANDBY, OFF; one profile; tenant 0 alone; its check behind it. -/
def image : List Byte :=
  let body : List Byte := [1, 0, 56, 1] ++ [1, 3, 2, 0] ++ [0, 0, 0, 0] ++ [1] ++ [8, 16, 24, 16, 16, 12] ++ [15, 11, 7] ++
    [64, 32, 12] ++ [4, 2, 1] ++ [7, 83] ++ [2, 0] ++ [1, 0] ++ [1] ++ [64, 1, 12, 0] ++ List.replicate 12 0 ++ [1] ++ [0, 0, 8, 28]
  body ++ bytes32 (crc32 body)

theorem test_image_is_taken_in : (takeImage image).map (fun p => (p.endRole, p.roles.a1, p.quota 0, p.enrolled 1)) =
    some (.follow, .mirror 0, 3072, false) := by decide +kernel
theorem test_image_with_a_wrong_check_is_rejected : takeImage (image.set 59 (image.getD 59 0 + 1)) = none := by decide +kernel
theorem test_defaults_pass_the_checks : defaultSettings.ok = true := by decide +kernel
theorem test_core_is_the_machine : Sys2Proof.core.step = step := rfl


/-! ## Witnesses: the hypotheses of every statement can be met -/


theorem witness_StepRunsTheFrontCommand :
    (({ base with pending := [.energy 0, .linkUp 1] } : State).pending = .energy 0 :: [.linkUp 1]) := by decide +kernel

theorem witness_IdleStepCountsTheFrame :
    (base.pending = [] ∧ base.running = true ∧ base.htu.frame.val < 63) ∧
    (({ base with htu := { base.htu with frame := 63 } } : State).htu.frame.val = 63) ∧
    (State.reset.pending = [] ∧ State.reset.running = false) :=
  ⟨by decide +kernel, by decide +kernel, by decide +kernel⟩

theorem witness_DefaultsComeIntoForce :
    State.reset.running = false ∧ State.reset.settled ∧ State.reset.clc = .of .reset ∧ (none : Option (List Byte)).bind takeImage = none ∧
    (some [1, 0, 56]).bind takeImage = none :=
  ⟨by decide +kernel, by unfold State.settled; decide +kernel, by decide +kernel, by decide +kernel, by decide +kernel⟩

theorem witness_ImageComesIntoForce :
    State.reset.running = false ∧ State.reset.clc = .of .reset ∧ (∃ p, takeImage image = some p ∧ p.roles.get 3 = .off ∧
      p.roles.get 0 ≠ .off) :=
  ⟨by decide +kernel, by decide +kernel, by
    have h : (takeImage image).all (fun p => p.roles.get 3 == .off && p.roles.get 0 != .off) = true := by decide +kernel
    have i : (takeImage image).isSome = true := by decide +kernel
    obtain ⟨p, hp⟩ := Option.isSome_iff_exists.mp i
    rw [hp] at h
    exact ⟨p, hp, by simpa using h⟩⟩

/-- Carrier 0 of `live` at the close of a superframe of 16 samples that favour the upper branch, at mean `m` and dwell count `d`. -/
def metered (m d : Nat) : State :=
  { live with ftr := live.ftr.modify 0 fun f => { f with acc := ⟨16, 16 * m, 16 * 80, 16 * 40, 16 * 12⟩, dwell := d } }

/-- The same carrier in ACQUIRE. -/
def trying (d : Nat) : State := ctl (metered 60 d) 0 fun c => { c with link := .acquire }

/-- Carrier 0 of `live` at dwell count `d`, without samples. -/
def dwelling (d : Nat) : State := { live with ftr := live.ftr.modify 0 fun f => { f with dwell := d } }

/-- Carrier 0 in ACQUIRE at its last count, the recovery count at `n`. -/
def ending (n : Nat) : State :=
  ctl { base with htu := { base.htu with recovery := n } } 0 fun c => { c with link := .acquire, acquireCount := 63 }

/-- Is `e` the one entry of a plan that is due at the next boundary, with nothing left over from the last? -/
def dueAlone (s : State) (e : Entry) : Bool :=
  s.running && s.due == [] && s.htu.anchor == s.lowestLocked && s.plc.plan == [e] && !e.isRx && e.state == .agreed &&
    e.target == some (s.htu.hsn + 1)

/-- An end that promotes, with carrier 3 on standby and carrier 0 in link state `l`. -/
def promoting (l : LinkState) : State :=
  ctl { live with settings := { defaultSettings with promotion := true, roles := ⟨.traffic, .traffic, .traffic, .standby⟩ },
                  cpm := { live.cpm with acting := ⟨some .traffic, some .traffic, some .traffic, some .standby⟩ } } 0 fun c => { c with link := l }

/-- Standby 3 in the place of carrier 0, its revert dwell at `d`. -/
def reverting (on : Bool) (d : Nat) : State :=
  owed (formed { promoting .locked with cpm := { live.cpm with
    subs := [⟨3, 0, d⟩], acting := ⟨some (if on then .displaced else .traffic), some .traffic, some .traffic, some .traffic⟩ } }) (.revertDwell 3)

/-- Unit 0 with receive profile `q` at the close of a superframe with mean `m`; the peer is in `mode`, its level on carrier 0 is `l`. -/
def closing (m q : Nat) (mode : Mode) (l : Option Nat) : State :=
  { metered m 4 with
    ade := live.ade.modify 0 fun a => { a with rxProfile := q, upDwell := 15 }
    peer := ⟨some mode, ⟨l, none, none, none⟩, .of (some 15), some live.settings.digest⟩ }

/-- An ask that has waited one boundary. -/
def waited : State := adapting live fun a => { a with state := .askingPower, asked := some 0, ask := some ⟨0, 0, 3, 1⟩ }

/-- Four LOCKED carriers where SURVIVAL allows one. -/
def crowded : State := { live with pbu := { live.pbu with effective := .survival, target := .survival, level := .of 2, settling := true } }

/-- Carrier 1 PARKED, and a hold of 4 traffic units. -/
def wanting : State := { ctl live 1 fun c => { c with link := .parked } with cpm := { live.cpm with hold := .of 4 } }

/-- A valid BULK lane for every carrier. -/
def defaultEntry : LaneEntry := ⟨true, .bulk, .of true, .watchdog, 255⟩

/-- `s` with a packet in lane 1 of tenant 0, which governs itself by `e` and has staged `n` of its bytes. -/
def packed (s : State) (e : LaneEntry) (n : Nat) : State :=
  let t := laned s fun z => { z with written := e, queue := [{ packet with staged := n }] }
  { t with sched := { t.sched with sharedHeld := 2, nextPkt := 1 } }

/-- Standby 3 in the place of the LOCKED carrier 0, one boundary short of the revert dwell. -/
def dwelt : State := { reverting true 255 with due := [] }

/-- Standby 3 in the place of the LOCKED carrier 0, itself in HOLDOFF. -/
def returning : State := ctl { reverting true 0 with due := [] } 3 fun c => { c with link := .holdoff, joined := false }

/-- Four LOCKED carriers whose idle runs stand at `n`, with frames offered and no traffic. -/
def idled (n : Nat) : State := { live with cpm := { live.cpm with idleRun := .of n, offered := .of 8 } }

/-- A packet for carrier 2 alone, which is PARKED. -/
def strandedLane : State :=
  packed (ctl live 2 fun c => { c with link := .parked }) { defaultEntry with eligible := ⟨false, false, true, false⟩ } 0

/-- A lane bound to unit 0 that has nothing to stage, with its empty mark. -/
def bounded (mark : Bool) : State :=
  laned live fun z => { z with written := defaultEntry, bound := some ⟨0, defaultEntry⟩, emptyMark := mark }

/-- A local proposal of age 3. -/
def agedIn : State := planned live ⟨7, .link (.park 1), none, .local, .proposed, 3⟩

/-- A packet that no carrier can take: its only one is DOWN. -/
def backlogged : State :=
  packed (ctl live 2 fun c => { c with link := .down }) { defaultEntry with cls := .elastic, eligible := ⟨false, false, true, false⟩ } 0

theorem witness_BoundaryBeginsSuperframe :
    (base.running = true ∧ base.htu.anchor = base.lowestLocked) ∧
    (live.running = true ∧ live.htu.anchor = live.lowestLocked ∧ live.isLocked 0 = true ∧ (live.ftr.get 0).chosen = none) ∧
    ((metered 60 3).isLocked 0 = true ∧ ((metered 60 3).ftr.get 0).chosen = some .upper ∧ ((metered 60 3).ftr.get 0).mode = .joint ∧
      ((metered 60 2).ftr.get 0).dwell < 3) ∧
    ((ending 15).beforeQuietBoundary ∧ (ending 15).htu.anchor = none ∧ 15 ≤ (ending 15).htu.recovery ∧
      ((ending 15).clc.get 0).closes 0 = some (.acquire 0)) ∧
    ((trying 3).beforeQuietBoundary) ∧
    ((trying 3).link 0 = .acquire ∧ ((trying 3).ftr.get 0).chosen = some .upper ∧ ((trying 3).ftr.get 0).dwell < 4 ∧
      after (.superframeBoundary [] true) (trying 2) (fun t => (t.ftr.get 0).dwell == 3) = true ∧
      after (.superframeBoundary [] true) (dwelling 3) (fun t => (t.ftr.get 0).dwell == 4) = true) :=
  ⟨by decide +kernel, by decide +kernel, by decide +kernel, by
    unfold State.beforeQuietBoundary State.noneDue
    decide +kernel, by
    unfold State.beforeQuietBoundary State.noneDue
    decide +kernel, by decide +kernel⟩

theorem witness_BoundaryAppliesDueEntries :
    (dueAlone (planned (live) ⟨0, .txProfile 0 2, some 1, .peer, .agreed, 0⟩) ⟨0, .txProfile 0 2, some 1, .peer, .agreed, 0⟩ = true ∧
      dueAlone (planned (live) ⟨0, .link (.park 1), some 1, .peer, .agreed, 0⟩) ⟨0, .link (.park 1), some 1, .peer, .agreed, 0⟩ = true ∧
      dueAlone (planned (ctl live 1 fun c => { c with link := .parked }) ⟨0, .link (.wake 1), some 1, .peer, .agreed, 0⟩) ⟨0, .link (.wake 1), some 1, .peer, .agreed, 0⟩ = true ∧
      dueAlone (planned (promoting .locked) ⟨0, .link (.promote 3 0), some 1, .peer, .agreed, 0⟩) ⟨0, .link (.promote 3 0), some 1, .peer, .agreed, 0⟩ = true ∧
      dueAlone (planned (live) ⟨0, .link (.promote 3 0), some 1, .peer, .agreed, 0⟩) ⟨0, .link (.promote 3 0), some 1, .peer, .agreed, 0⟩ = true ∧
      dueAlone (planned ({ reverting true 0 with due := [] }) ⟨0, .link (.revert 3 0), some 1, .peer, .agreed, 0⟩) ⟨0, .link (.revert 3 0), some 1, .peer, .agreed, 0⟩ = true ∧
      dueAlone (planned (live) ⟨0, .link (.revert 3 0), some 1, .peer, .agreed, 0⟩) ⟨0, .link (.revert 3 0), some 1, .peer, .agreed, 0⟩ = true) ∧
    ((promoting .locked).cpm.acting.get 3 = some .standby ∧ (promoting .locked).cpm.acting.get 0 = some .traffic ∧
      (3, 0) ∈ (reverting true 0).cpm.substitutes ∧ (reverting true 0).cpm.acting.get 3 = some .traffic ∧
      (reverting true 0).cpm.acting.get 0 = some .displaced) :=
  ⟨by decide +kernel, by decide +kernel⟩

theorem witness_BoundaryDecidesTheProfile :
    ((base).beforeQuietBoundary) ∧
    (base.unitLocked 0 = false) ∧
    ((live).beforeQuietBoundary) ∧
    (live.unitLocked 0 = true ∧ live.closingUnit 0 = none) ∧
    ((adapting base fun a => { a with dropHold := 1 }).beforeQuietBoundary) ∧
    (((adapting base fun a => { a with dropHold := 1 }).ade.get 0).dropHold = 1) ∧
    (let s := closing 200 3 .full none; (s.ade.get 0).upDwell < (s.stepped (s.ade.get 0) (s.closingUnit 0)).upDwell ∧
      (s.stepped (s.ade.get 0) (s.closingUnit 0)).upDwell = s.settings.upDwell) ∧
    ((waited).beforeQuietBoundary) ∧
    (waited.unitLocked 0 = true ∧ (waited.ade.get 0).ask = some ⟨0, 0, 3, 1⟩) ∧
    ((closing 20 3 .full (some 5)).beforeQuietBoundary) ∧
    (let s := closing 20 3 .full (some 5); s.unitLocked 0 = true ∧ s.closingUnit 0 = some (0, 20) ∧ (s.ade.get 0).state = .steady ∧
      (s.ade.get 0).ask = none ∧ 20 < s.settings.required 3 + s.settings.holdMargin ∧ s.peer.level.get 0 = some 5 ∧
      s.peer.cap.get 0 = some 15 ∧ (s.ade.get 0).atCap = none) ∧
    ((closing 20 3 .full none).peer.level.get 0 = none ∧ (closing 20 3 .full none).closingUnit 0 = some (0, 20) ∧
      (closing 20 0 .full none).closingUnit 0 = some (0, 20) ∧
      20 < (closing 20 0 .full none).settings.required 0 + (closing 20 0 .full none).settings.holdMargin) ∧
    ((closing 200 7 .full none).beforeQuietBoundary) ∧
    ((closing 200 7 .full none).closingUnit 0 = some (0, 200) ∧ (closing 200 7 .full none).settings.top ≤ 7 ∧
      (closing 200 7 .full none).peer.mode = some .full) ∧
    ((closing 200 3 .economy (some 5)).peer.mode = some .economy ∧ (closing 200 3 .economy (some 5)).settings.required 3 + 16 + 8 ≤ 200) ∧
    ((closing 200 3 .full none).beforeQuietBoundary) ∧
    (let s := closing 200 3 .full none; s.settings.upDwell ≤ (s.stepped (s.ade.get 0) (s.closingUnit 0)).upDwell ∧
      (s.stepped (s.ade.get 0) (s.closingUnit 0)).dropHold = 0 ∧ s.peer.digest = some s.settings.digest ∧
      after (.superframeBoundary [] true) s (fun t => !t.linkCounts 0 && t.plc.plan != []) = true) ∧
    (let s := { closing 200 3 .full none with peer := .unknown }; s.peer.mode = none ∧ s.closingUnit 0 = some (0, 200) ∧
      s.peer.digest ≠ some s.settings.digest) :=
  ⟨by
    unfold State.beforeQuietBoundary State.noneDue
    decide +kernel, by decide +kernel, by
    unfold State.beforeQuietBoundary State.noneDue
    decide +kernel, by decide +kernel, by
    unfold State.beforeQuietBoundary State.noneDue
    decide +kernel, by decide +kernel, by decide +kernel, by
    unfold State.beforeQuietBoundary State.noneDue
    decide +kernel, by decide +kernel, by
    unfold State.beforeQuietBoundary State.noneDue
    decide +kernel, by decide +kernel, by decide +kernel, by
    unfold State.beforeQuietBoundary State.noneDue
    decide +kernel, by decide +kernel, by decide +kernel, by
    unfold State.beforeQuietBoundary State.noneDue
    decide +kernel, by decide +kernel, by decide +kernel⟩

theorem witness_BoundaryServesThePool :
    ((crowded).beforeQuietBoundary) ∧
    (crowded.linkOpen ∧ crowded.pbu.settling = true ∧ crowded.effLimit < crowded.awakeCount) ∧
    (crowded.FirstPark 1 3 ∧ ∀ k, crowded.isLocked k = true → (crowded.clc.get k).joined = true) ∧
    ((promoting .holdoff).beforeQuietBoundary) ∧
    ((promoting .holdoff).linkOpen ∧ ∀ k, (promoting .holdoff).isLocked k = true → ((promoting .holdoff).clc.get k).joined = true) ∧
    (let s := promoting .holdoff; s.pbu.settling = false ∧ s.settings.endRole = .lead ∧ s.settings.promotion = true ∧
      s.cpm.subs.length < 2 ∧ s.cpm.acting.get 0 = some .traffic ∧ s.members 0 = [0] ∧ s.link 0 = .holdoff ∧ s.backoffWithin 1 0 ∧
      s.cpm.acting.get 3 = some .standby ∧ s.members 3 = [3] ∧ s.isLocked 3 = true ∧ s.backoffWithin 1 3 ∧
      s.cpm.acting.get 1 ≠ some .standby) ∧
    ((wanting).beforeQuietBoundary) ∧
    (wanting.linkOpen) ∧
    (wanting.settings.promotion = false ∧ wanting.awakeTrafficUnits none < wanting.effHold ∧ wanting.awakeCount < wanting.effLimit ∧
      wanting.budgetInUse + 5 ≤ wanting.figures.budget ∧ wanting.link 1 = .parked ∧ wanting.cpm.penalty.get 1 ≤ 1 ∧
      wanting.cpm.acting.get 1 = some .traffic ∧ wanting.backoffWithin 1 1 ∧ ∀ j < 1, wanting.link j ≠ .parked) ∧
    ((strandedLane).beforeQuietBoundary) ∧
    (let s := strandedLane; s.cpm.acting.get 2 = some .traffic ∧ s.link 2 = .parked ∧
      after (.superframeBoundary [] true) s (fun t => (t.sched.lane 0 0).queue != [] &&
      (t.eligibleUnits (t.sched.lane 0 0).governing.eligible).all (fun u => u == 2 && !s.inService u) &&
      t.plc.plan.any (Entry.isWake none)) = true) ∧
    ((live).beforeQuietBoundary) ∧
    (live.linkOpen ∧ live.effHold ≤ live.awakeTrafficUnits none ∧ live.pbu.settling = false ∧ (∀ k, live.link k ≠ .parked) ∧
      after (.superframeBoundary [] true) live (fun t => t.cpm.backlogRun != 4) = true) ∧
    ((dwelt).beforeQuietBoundary) ∧
    (dwelt.cpm.subs = [⟨3, 0, 255⟩] ∧ dwelt.isLocked 0 = true ∧ 255 + 1 = dwelt.settings.revertDwell) ∧
    ((returning).beforeQuietBoundary) ∧
    (returning.linkOpen ∧ (∀ k, returning.isLocked k = true → (returning.clc.get k).joined = true) ∧ returning.backoffWithin 1 3 ∧
      returning.backoffWithin 1 0 ∧ returning.cpm.acting.get 0 = some .displaced) ∧
    (let s := returning; s.settings.endRole = .lead ∧ s.settings.promotion = true ∧ s.pbu.settling = false ∧ s.cpm.subs = [⟨3, 0, 0⟩] ∧
      s.isLocked 3 = false ∧ s.isLocked 0 = true ∧ (∀ d, s.cpm.acting.get d = some .traffic → s.link d = .locked ∨ d = 3)) ∧
    ((idled 1874).beforeQuietBoundary) ∧
    ((idled 1875).beforeQuietBoundary) ∧
    (live.settings.idlePark = 1875 ∧ (∀ n ∈ [1874, 1875], (idled n).linkOpen ∧ (idled n).inService 3 = true ∧ (idled n).backoffWithin 1 3 ∧
      max (idled n).effHold 1 ≤ (idled n).awakeTrafficUnits (some ((idled n).idleCarrier 3)) ∧ (idled n).isLocked 0 = true)) ∧
    (after (.superframeBoundary [] true) (idled 1874) (fun t => t.cpm.idleRun.get 3 == 1875) &&
      after (.superframeBoundary [] true) (idled 1875) (fun t => t.cpm.idleRun.get 3 == 1876) = true) :=
  ⟨by
    unfold State.beforeQuietBoundary State.noneDue
    decide +kernel, by
    unfold State.linkOpen
    decide +kernel, by
    unfold State.FirstPark State.mayPark State.backoffWithin
    decide +kernel, by
    unfold State.beforeQuietBoundary State.noneDue
    decide +kernel, by
    unfold State.linkOpen
    decide +kernel, by
    unfold State.backoffWithin
    decide +kernel, by
    unfold State.beforeQuietBoundary State.noneDue
    decide +kernel, by
    unfold State.linkOpen
    decide +kernel, by
    unfold State.backoffWithin
    decide +kernel, by
    unfold State.beforeQuietBoundary State.noneDue
    decide +kernel, by decide +kernel, by
    unfold State.beforeQuietBoundary State.noneDue
    decide +kernel, by
    unfold State.linkOpen
    decide +kernel, by
    unfold State.beforeQuietBoundary State.noneDue
    decide +kernel, by decide +kernel, by
    unfold State.beforeQuietBoundary State.noneDue
    decide +kernel, by
    unfold State.linkOpen State.backoffWithin
    decide +kernel, by decide +kernel, by
    unfold State.beforeQuietBoundary State.noneDue
    decide +kernel, by
    unfold State.beforeQuietBoundary State.noneDue
    decide +kernel, by
    unfold State.linkOpen State.backoffWithin
    decide +kernel, by decide +kernel⟩

theorem witness_BoundaryMovesTheLanes :
    ((bounded false).beforeQuietBoundary) ∧
    ((bounded false).accountLaw ∧ (bounded true).accountLaw) ∧
    ((bounded true).beforeQuietBoundary) ∧
    (((bounded true).sched.lane 0 0).bound = some ⟨0, defaultEntry⟩ ∧ ((bounded true).sched.lane 0 0).emptyMark = true ∧
      ((bounded true).sched.lane 0 0).queue = [] ∧ ((bounded false).sched.lane 0 0).emptyMark = false) ∧
    ((boundaryOrder [.schedule]).getLast? = some .schedule ∧ (bounded true).sched.credit.get 0 ≤ 24 * (bounded true).settings.committed 0) ∧
    ((agedIn).beforeQuietBoundary) ∧
    (agedIn.accountLaw) ∧
    ((agedIn.plc.plan.any fun e => !e.isRx && e.origin == .local && e.state == .proposed && e.age == 3) = true) ∧
    ((backlogged).beforeQuietBoundary) ∧
    (backlogged.accountLaw) ∧
    ((backlogged.sched.lane 0 0).queue ≠ [] ∧
      after (.superframeBoundary [] true) backlogged (fun t => (t.sched.lane 0 0).queue == (backlogged.sched.lane 0 0).queue &&
      t.due == []) = true) :=
  ⟨by
    unfold State.beforeQuietBoundary State.noneDue
    decide +kernel, by
    unfold State.accountLaw Lane.numbered
    decide +kernel, by
    unfold State.beforeQuietBoundary State.noneDue
    decide +kernel, by decide +kernel, by decide +kernel, by
    unfold State.beforeQuietBoundary State.noneDue
    decide +kernel, by
    unfold State.accountLaw Lane.numbered
    decide +kernel, by decide +kernel, by
    unfold State.beforeQuietBoundary State.noneDue
    decide +kernel, by
    unfold State.accountLaw Lane.numbered
    decide +kernel, by decide +kernel⟩

theorem witness_BoundaryMovesTheLanes_rx :
    ((planned live ⟨7, .rxProfile 0 1, some 0, .local, .agreed, 0⟩).beforeQuietBoundary) ∧
    ((planned live ⟨7, .rxProfile 0 1, some 0, .local, .agreed, 0⟩).accountLaw ∧
      (planned live ⟨7, .rxProfile 0 1, none, .local, .proposed, 3⟩).accountLaw) ∧
    ((planned live ⟨7, .rxProfile 0 1, none, .local, .proposed, 3⟩).beforeQuietBoundary) ∧
    ((planned live ⟨7, .rxProfile 0 1, some 0, .local, .agreed, 0⟩).htu.hsn = 0 ∧
      Entry.isRxOf 0 ⟨7, .rxProfile 0 1, some 0, .local, .agreed, 0⟩ = true ∧
      after (.superframeBoundary [] true) (planned live ⟨7, .rxProfile 0 1, some 0, .local, .agreed, 0⟩) (fun t => t.plc.plan != [] &&
      t.due.contains (.rxPast 0)) = true ∧
      after (.superframeBoundary [] true) (planned live ⟨7, .rxProfile 0 1, none, .local, .proposed, 3⟩) (fun t => t.plc.plan != [] &&
      t.due.contains (.proposal 7)) = true) :=
  ⟨by
    unfold State.beforeQuietBoundary State.noneDue
    decide +kernel, by
    unfold State.accountLaw Lane.numbered
    decide +kernel, by
    unfold State.beforeQuietBoundary State.noneDue
    decide +kernel, by decide +kernel⟩

theorem witness_BoundaryCountsDebounce :
    (base.running = true ∧ base.due = [] ∧ base.pbu.target = base.pbu.effective) ∧
    (({ base with pbu := { base.pbu with target := .economy, effective := .full, debounce := 14 } } : State).pbu.target ≠ ({ base with pbu := { base.pbu with target := .economy, effective := .full, debounce := 14 } } : State).pbu.effective ∧
      ({ base with pbu := { base.pbu with target := .economy, effective := .full, debounce := 14 } } : State).pbu.debounce < 15 ∧
      ({ base with pbu := { base.pbu with target := .economy, effective := .full, debounce := 14 } } : State).due = []) ∧
    (({ base with pbu := { base.pbu with target := .economy, effective := .full, debounce := 15 } } : State).pbu.target ≠ ({ base with pbu := { base.pbu with target := .economy, effective := .full, debounce := 15 } } : State).pbu.effective ∧
      ({ base with pbu := { base.pbu with target := .economy, effective := .full, debounce := 15 } } : State).pbu.debounce = 15 ∧
      ({ base with pbu := { base.pbu with target := .economy, effective := .full, debounce := 15 } } : State).due = []) :=
  ⟨by decide +kernel, by decide +kernel, by decide +kernel⟩

/-- Carrier 0 in ACQUIRE. -/
def acquiring : State := ctl base 0 fun c => { c with link := .acquire }

/-- The waking count at its end. -/
def waked : State := owed (ctl base 0 fun c => { c with link := .waking, wakingCount := 256 }) (.waking 0)

/-- The retry count at its end. -/
def latched : State := owed (ctl base 0 fun c => { c with faultLatch := true, retryCount := 256 }) (.retry 0)

theorem witness_FaultPowersDown :
    State.steady (acquiring) ∧
    (acquiring.link 0 ≠ .down ∧ acquiring.link 0 ≠ .locked) ∧
    State.steady (waked) ∧
    (Expiry.waking 0 ∈ waked.due ∧ waked.link 0 = .waking ∧ 256 ≤ (waked.clc.get 0).wakingCount) ∧
    State.steady (live) ∧
    (live.link 0 = .locked ∧ live.role 0 ≠ .off ∧ live.htu.anchor = live.lowestLocked ∧ live.unitOf 0 = some 0 ∧
      (live.sched.staging.get 0).held = 0) ∧
    (State.capacityLaw (live)) ∧
    (State.capacityLaw (staged live)) ∧
    State.steady (promoting .locked) ∧
    (State.link (promoting .locked) 0 = .locked ∧ State.role (promoting .locked) 0 ≠ .off ∧
      (State.htu (promoting .locked)).anchor = State.lowestLocked (promoting .locked)) ∧
    (State.substitutes (promoting .locked) ∧ State.backoffWithin (promoting .locked) 0 0 ∧ State.backoffWithin (promoting .locked) 0 0) ∧
    (let s := promoting .locked; s.cpm.acting.get 0 = some .traffic ∧ s.members 0 = [0] ∧ s.cpm.subs = [] ∧
      after (.modemFault 0) s (fun t => t.htu.anchor == some 1 && t.link 0 == .down &&
      t.plc.plan.any (fun e => e.change == .link (.promote 3 0))) = true) ∧
    ((promoting .locked).standsBy 0 3 ∧ ∀ j < (3 : CarrierId), ¬(promoting .locked).standsBy 0 j) ∧
    State.steady (reverting true 0) ∧
    (State.link (reverting true 0) 3 = .locked ∧ State.role (reverting true 0) 3 ≠ .off ∧
      (State.htu (reverting true 0)).anchor = State.lowestLocked (reverting true 0)) ∧
    (State.substitutes (reverting true 0) ∧ State.backoffWithin (reverting true 0) 0 3 ∧ State.backoffWithin (reverting true 0) 0 0) ∧
    (let s := reverting true 0; s.cpm.subs = [⟨3, 0, 0⟩] ∧ s.isLocked 0 = true ∧
      after (.modemFault 3) s (fun t => t.htu.anchor == some 0 && t.plc.plan.any (fun e => e.change == .link (.revert 3 0))) = true) ∧
    State.steady (base) ∧
    (base.link 0 = .down ∧ (base.clc.get 0).faultLatch = false) ∧
    State.steady (latched) ∧
    (latched.link 0 = .down ∧ Expiry.retry 0 ∈ latched.due ∧ (latched.clc.get 0).faultLatch = true ∧
      256 ≤ (latched.clc.get 0).retryCount) :=
  ⟨steady_of (by decide +kernel), by decide +kernel, steady_of (by decide +kernel), by decide +kernel, steady_of (by decide +kernel),
    by decide +kernel, capacityLaw_of (by decide +kernel), capacityLaw_of (by decide +kernel), steady_of (by decide +kernel),
    by decide +kernel, by
    unfold State.substitutes State.linkOpen State.backoffWithin
    decide +kernel, by decide +kernel, by
    unfold State.standsBy State.backoffWithin
    decide +kernel, steady_of (by decide +kernel), by decide +kernel, by
    unfold State.substitutes State.linkOpen State.backoffWithin
    decide +kernel, by decide +kernel, steady_of (by decide +kernel), by decide +kernel, steady_of (by decide +kernel), by decide +kernel⟩

/-- The acquire count at its end. -/
def timedOut : State := owed (ctl base 0 fun c => { c with link := .acquire, acquireCount := 64 }) (.acquire 0)

/-- The same with a wake mark and failed wakes. -/
def timedOutWake (n : Nat) : State :=
  owed (ctl base 0 fun c => { c with link := .acquire, acquireCount := 64, wakeMark := true, failedWakes := n }) (.acquire 0)

/-- The holdoff count at its end. -/
def heldOff : State := owed (ctl base 0 fun c => { c with link := .holdoff, holdoffCount := 32 }) (.holdoff 0)

/-- The same with the budget of ECONOMY taken up. -/
def tight : State :=
  owed (ctl { live with pbu := { live.pbu with level := .of 15, effective := .economy } } 0 fun c => { c with link := .holdoff, holdoffCount := 32 }) (.holdoff 0)

/-- The hop recovery count at 16. -/
def recovering : State := owed (ctl { base with htu := { base.htu with recovery := 16 } } 1 fun c => { c with link := .parked }) .recovery

theorem witness_AcquisitionExpiriesAct :
    State.steady (timedOut) ∧
    (Expiry.acquire 0 ∈ timedOut.due ∧ timedOut.link 0 = .acquire ∧ 64 ≤ (timedOut.clc.get 0).acquireCount ∧
      (timedOut.clc.get 0).wakeMark = false) ∧
    State.steady (timedOutWake 1) ∧
    ((timedOutWake 1).link 0 = .acquire ∧ ((timedOutWake 1).clc.get 0).wakeMark = true ∧ ((timedOutWake 1).clc.get 0).failedWakes < 2) ∧
    State.steady (timedOutWake 2) ∧
    (Expiry.acquire 0 ∈ (timedOutWake 2).due ∧ 2 ≤ ((timedOutWake 2).clc.get 0).failedWakes) ∧
    State.steady (heldOff) ∧
    (Expiry.holdoff 0 ∈ heldOff.due ∧ heldOff.link 0 = .holdoff ∧ 32 ≤ (heldOff.clc.get 0).holdoffCount ∧
      13 ≤ heldOff.figures.budget - heldOff.budgetInUse) ∧
    State.steady (tight) ∧
    (Expiry.holdoff 0 ∈ tight.due ∧ tight.link 0 = .holdoff ∧ 32 ≤ (tight.clc.get 0).holdoffCount ∧
      tight.figures.budget - tight.budgetInUse < 5) ∧
    State.steady (recovering) ∧
    (Expiry.recovery ∈ recovering.due ∧ recovering.htu.anchor = none ∧ recovering.htu.recovery = 16 ∧ (∀ k, recovering.link k ≠ .acquire) ∧
      recovering.awakeCount < recovering.localLimit ∧ recovering.link 1 = .parked ∧ recovering.cpm.penalty.get 1 = 0) :=
  ⟨steady_of (by decide +kernel), by decide +kernel, steady_of (by decide +kernel), by decide +kernel, steady_of (by decide +kernel),
    by decide +kernel, steady_of (by decide +kernel), by decide +kernel, steady_of (by decide +kernel), by decide +kernel,
    steady_of (by decide +kernel), by decide +kernel⟩

/-- The debounce count at its end, on a drop to SURVIVAL. -/
def falling : State := owed { live with pbu := { live.pbu with target := .survival, debounce := 16 } } .debounce

/-- The debounce count at its end, on a rise to FULL. -/
def rising : State := owed { live with pbu := { live.pbu with target := .full, effective := .economy, debounce := 16 } } .debounce

theorem witness_ModeChangeComesIntoEffect :
    State.steady (falling) ∧
    (Expiry.debounce ∈ falling.due ∧ falling.pbu.target ≠ falling.pbu.effective ∧ falling.pbu.debounce = 16 ∧ falling.settings.ok = true ∧
      modeRank falling.pbu.effective < modeRank falling.pbu.target) ∧
    (falling.FirstPark 0 3) ∧
    (falling.linkOpen ∧ after .modeDebounceExpiry falling (fun t => t.effLimit < t.awakeCount && t.pbu.level.get 3 < 7 &&
      t.pbu.level.get 0 != 12) = true) ∧
    State.steady (rising) ∧
    (Expiry.debounce ∈ rising.due ∧ rising.pbu.debounce = 16 ∧ rising.settings.ok = true ∧
      modeRank rising.pbu.target < modeRank rising.pbu.effective) :=
  ⟨steady_of (by decide +kernel), by decide +kernel, by
    unfold State.FirstPark State.mayPark State.backoffWithin
    decide +kernel, by
    unfold State.linkOpen
    decide +kernel, steady_of (by decide +kernel), by decide +kernel⟩

theorem witness_ObservingExpiriesChangeNothing :
    State.steady (base) := steady_of (by decide +kernel)

/-- An ask that has waited two boundaries. -/
def asking : State := owed (adapting live fun a => { a with state := .askingPower, asked := some 0, ask := some ⟨0, 0, 3, 2⟩ }) (.ask 0)

/-- The same under a superframe mean `m` and a peer in `mode`. -/
def askingAt (m : Nat) (mode : Mode) : State :=
  { adapting asking fun a => { a with rxProfile := 3, upDwell := 16, mean := some (0, m) } with peer := ⟨some mode, .of (some 5), .of (some 15), some live.settings.digest⟩ }

theorem witness_UnansweredAskMarksThePeer :
    State.steady (asking) ∧
    (Expiry.ask 0 ∈ asking.due ∧ (asking.ade.get 0).ask = some ⟨0, 0, 3, 2⟩ ∧ (asking.ade.get 0).asked = some 0 ∧
      asking.governing 0 = none) ∧
    (State.capacityLaw (asking)) ∧
    (State.capacityLaw (askingAt 20 .full)) ∧
    (State.capacityLaw (askingAt 200 .full)) ∧
    (State.capacityLaw (askingAt 200 .economy)) ∧
    State.steady (askingAt 20 .full) ∧
    (Expiry.ask 0 ∈ (askingAt 20 .full).due ∧ ((askingAt 20 .full).ade.get 0).ask = some ⟨0, 0, 3, 2⟩ ∧
      (askingAt 20 .full).governing 0 = some (0, 20) ∧ ((askingAt 20 .full).ade.get 0).rxProfile = 3 ∧
      20 < (askingAt 20 .full).settings.required 3 + 8) ∧
    State.steady (askingAt 200 .full) ∧
    ((askingAt 200 .full).governing 0 = some (0, 200) ∧ (askingAt 200 .full).peer.mode = some .full ∧
      16 ≤ ((askingAt 200 .full).ade.get 0).upDwell ∧ after (.powerAskExpiry 0) (askingAt 200 .full) (fun t => !t.linkCounts 0 &&
      (t.ade.get 0).state == .proposing) = true) ∧
    State.steady (askingAt 200 .economy) ∧
    ((askingAt 200 .economy).peer.mode = some .economy ∧ (askingAt 200 .economy).peer.level.get 0 = some 5 ∧
      (askingAt 200 .economy).settings.required 3 + 16 + 8 ≤ 200) :=
  ⟨steady_of (by decide +kernel), by decide +kernel, capacityLaw_of (by decide +kernel), capacityLaw_of (by decide +kernel),
    capacityLaw_of (by decide +kernel), capacityLaw_of (by decide +kernel), steady_of (by decide +kernel), by decide +kernel,
    steady_of (by decide +kernel), by decide +kernel, steady_of (by decide +kernel), by decide +kernel⟩

/-- A PROPOSED entry of age 4 with tag 7. -/
def proposed (c : Change) : State :=
  adapting (owed (planned live ⟨7, c, none, .local, .proposed, 4⟩) (.proposal 7)) fun a => { a with state := .proposing }

/-- An RX_PROFILE entry whose target has just passed. -/
def past : State :=
  owed (planned { live with htu := { live.htu with hsn := 9 } } ⟨7, .rxProfile 0 1, some 8, .local, .agreed, 0⟩) (.rxPast 0)

theorem witness_PlanExpiriesRemoveEntries :
    State.steady (proposed (.rxProfile 0 1)) ∧
    (Expiry.proposal 7 ∈ (proposed (.rxProfile 0 1)).due ∧
      (proposed (.rxProfile 0 1)).proposedEntry 7 = some ⟨7, .rxProfile 0 1, none, .local, .proposed, 4⟩ ∧
      ((proposed (.rxProfile 0 1)).ade.get 0).state = .proposing) ∧
    State.steady (proposed (.link (.park 1))) ∧
    ((proposed (.link (.park 1))).proposedEntry 7 = some ⟨7, .link (.park 1), none, .local, .proposed, 4⟩ ∧
      (proposed (.link (.park 1))).unitOfChange (.link (.park 1)) = some 1) ∧
    (State.capacityLaw (proposed (.rxProfile 0 1))) ∧
    (State.capacityLaw (proposed (.link (.park 1)))) ∧
    (State.capacityLaw (past)) ∧
    State.steady (past) ∧
    (Expiry.rxPast 0 ∈ past.due ∧ past.plc.plan.any (Entry.isPastRx 0 past.htu.hsn) = true) ∧
    State.steady (adapting past fun a => { a with state := .proposing }) ∧
    (((adapting past fun a => { a with state := .proposing }).ade.get 0).state = .proposing) :=
  ⟨steady_of (by decide +kernel), by decide +kernel, steady_of (by decide +kernel), by decide +kernel, capacityLaw_of (by decide +kernel),
    capacityLaw_of (by decide +kernel), capacityLaw_of (by decide +kernel), steady_of (by decide +kernel), by decide +kernel,
    steady_of (by decide +kernel), by decide +kernel⟩

/-- An idle run, with the expiry left. -/
def idle (n : Nat) : State := owed { live with cpm := { live.cpm with idleRun := .of n } } (.idlePark 3)

theorem witness_PoolExpiriesRequest :
    State.steady (idle 1875) ∧
    (Expiry.idlePark 3 ∈ (idle 1875).due ∧ (!(idle 1875).wakeWanted && !(idle 1875).pbu.settling && (idle 1875).idleCandidate 3 &&
      !(idle 1875).linkRefused (.park ((idle 1875).idleCarrier 3))) = true) ∧
    State.steady (idle 1874) ∧
    ((idle 1874).idleCandidate 3 = false) ∧
    State.steady (reverting true 256) ∧
    (Expiry.revertDwell 3 ∈ (reverting true 256).due ∧ (reverting true 256).cpm.subs.find? (fun x => x.s == 3) = some ⟨3, 0, 256⟩ ∧
      ((reverting true 256).isLocked 3 && (reverting true 256).requestable 3 && (reverting true 256).requestable 0 &&
      !(reverting true 256).linkRefused (.revert 3 0)) = true) ∧
    State.steady (reverting true 255) ∧
    ((reverting true 255).cpm.subs.find? (fun x => x.s == 3) = some ⟨3, 0, 255⟩ ∧
      (255 == (reverting true 255).settings.revertDwell) = false) :=
  ⟨steady_of (by decide +kernel), by decide +kernel, steady_of (by decide +kernel), by decide +kernel, steady_of (by decide +kernel),
    by decide +kernel, steady_of (by decide +kernel), by decide +kernel⟩

/-- A stall timer at the limit. -/
def stalling (m : StallMode) (staged : Nat) : State :=
  owed (laned live fun z => { z with written := ⟨true, .bulk, .of true, m, 255⟩, queue := [{ packet with staged := staged }], timer := 255 }) (.stall 0 0)

/-- A HOLD lane whose only eligible carrier is DOWN. -/
def stranded : State :=
  laned (ctl (stalling .hold 0) 3 fun c => { c with link := .down }) fun z => { z with written := { z.written with eligible := ⟨false, false, false, true⟩ } }

theorem witness_StallLimitActsOnTheHead :
    State.steady ((stalling .watchdog 0)) ∧
    (Expiry.stall 0 0 ∈ (stalling .watchdog 0).due ∧ ((stalling .watchdog 0).sched.lane 0 0).queue = [{ packet with staged := 0 }] ∧
      ((stalling .watchdog 0).sched.lane 0 0).governing.limit ≤ ((stalling .watchdog 0).sched.lane 0 0).timer ∧
      ((stalling .watchdog 0).sched.lane 0 0).governing.stall = .watchdog) ∧
    State.steady ((stalling .watchdog 1)) ∧
    (Expiry.stall 0 0 ∈ (stalling .watchdog 1).due ∧ ((stalling .watchdog 1).sched.lane 0 0).queue = [{ packet with staged := 1 }] ∧
      ((stalling .watchdog 1).sched.lane 0 0).governing.limit ≤ ((stalling .watchdog 1).sched.lane 0 0).timer ∧
      ((stalling .watchdog 1).sched.lane 0 0).governing.stall = .watchdog) ∧
    State.steady ((stalling .hold 0)) ∧
    (Expiry.stall 0 0 ∈ (stalling .hold 0).due ∧ ((stalling .hold 0).sched.lane 0 0).queue = [{ packet with staged := 0 }] ∧
      ((stalling .hold 0).sched.lane 0 0).governing.limit ≤ ((stalling .hold 0).sched.lane 0 0).timer ∧
      ((stalling .hold 0).sched.lane 0 0).governing.stall = .hold) ∧
    State.steady (stranded) ∧
    (Expiry.stall 0 0 ∈ stranded.due ∧
      (∀ k ∈ stranded.eligibleCarriers (stranded.sched.lane 0 0).governing.eligible, stranded.role k = .off ∨ stranded.link k = .down) ∧
      (stranded.sched.lane 0 0).governing.limit ≤ (stranded.sched.lane 0 0).timer) :=
  ⟨steady_of (by decide +kernel), by decide +kernel, steady_of (by decide +kernel), by decide +kernel, steady_of (by decide +kernel),
    by decide +kernel, steady_of (by decide +kernel), by decide +kernel⟩

/-- A carrier that wakes, in the start allowance or not, with a fault latch or not. -/
def waking (a l : Bool) : State := ctl base 0 fun c => { c with link := .waking, allowance := a, faultLatch := l }

/-- Carrier 1 PARKED, the hop down. -/
def parked : State := ctl base 1 fun c => { c with link := .parked }

/-- Carrier 1 PARKED under a WAKE entry. -/
def woken : State := planned (ctl live 1 fun c => { c with link := .parked }) ⟨3, .link (.wake 1), some 1, .peer, .agreed, 0⟩

theorem witness_ModemEventsStartCarriers :
    State.steady (waking true false) ∧
    ((waking true false).link 0 = .waking ∧ ((waking true false).clc.get 0).allowance = true ∧
      ((waking true false).clc.get 0).faultLatch = false) ∧
    State.steady (waking false false) ∧
    ((waking false false).link 0 = .waking ∧ ((waking false false).clc.get 0).allowance = false ∧
      ((waking false false).clc.get 0).faultLatch = false) ∧
    State.steady (waking true true) ∧
    ((waking true true).link 0 = .waking ∧ ((waking true true).clc.get 0).allowance = true ∧
      ((waking true true).clc.get 0).faultLatch = true) ∧
    State.steady (woken) ∧
    (woken.link 1 = .parked ∧ (woken.plc.plan.any fun e => e.change == .link (.wake 1)) = true) ∧
    State.steady (parked) ∧
    (parked.link 1 = .parked ∧ (parked.plc.plan.any fun e => e.change == .link (.wake 1)) = false ∧ parked.htu.anchor = none ∧
      parked.awakeCount < parked.localLimit) ∧
    State.steady (base) ∧
    (base.link 1 ≠ .parked) ∧
    State.steady (ctl live 1 fun c => { c with link := .parked }) ∧
    ((ctl live 1 fun c => { c with link := .parked }).htu.anchor ≠ none) :=
  ⟨steady_of (by decide +kernel), by decide +kernel, steady_of (by decide +kernel), by decide +kernel, steady_of (by decide +kernel),
    by decide +kernel, steady_of (by decide +kernel), by decide +kernel, steady_of (by decide +kernel), by decide +kernel,
    steady_of (by decide +kernel), by decide +kernel, steady_of (by decide +kernel), by decide +kernel⟩

/-- Carrier 0 in ACQUIRE with its runs. -/
def runs (a u h : Nat) : State :=
  ctl acquiring 0 fun c => { c with alignedRun := a, unalignedRun := u, headerRun := h, headerAligned := true }

/-- Standby 3 in HOLDOFF in the place of carrier 0, which is about to lock. -/
def relocking : State := ctl returning 0 fun c => { c with link := .acquire, alignedRun := 7 }

/-- Carrier 0 LOCKED with unaligned runs. -/
def shaky (u h : Nat) : State := ctl live 0 fun c => { c with unalignedRun := u, headerRun := h }

theorem witness_SampleIsRecordedOrDiscarded :
    State.steady (base) ∧
    (base.link 0 ≠ .acquire ∧ base.link 0 ≠ .locked) ∧
    (¬({ sample true with upper := 201 } : SampleData).upper ≤ 200) ∧
    State.steady (runs 6 0 0) ∧
    ((runs 6 0 0).link 0 = .acquire ∧ (sample true).aligns ((runs 6 0 0).ftr.get 0).mode = true ∧
      ¬7 ≤ ((runs 6 0 0).clc.get 0).alignedRun) ∧
    State.steady (shaky 2 0) ∧
    ((shaky 2 0).link 0 = .locked ∧ ((shaky 2 0).clc.get 0).unalignedRun < 3 ∧ ((shaky 2 0).clc.get 0).headerRun < 4 ∧
      (shaky 2 0).unitOf 0 = some 0 ∧
      ({ shaky 2 0 with ftr := (shaky 2 0).ftr.set 0 (((shaky 2 0).ftr.get 0).sampled (sample false)) } : State).emergencyHolds 0 = false) :=
  ⟨steady_of (by decide +kernel), by decide +kernel, by decide +kernel, steady_of (by decide +kernel), by decide +kernel,
    steady_of (by decide +kernel), by decide +kernel⟩

theorem witness_EighthAlignedSampleLocks :
    State.steady (runs 7 0 0) ∧
    ((runs 7 0 0).link 0 = .acquire ∧ (runs 7 0 0).unitOf 0 = some 0 ∧ (sample true).aligns ((runs 7 0 0).ftr.get 0).mode = true ∧
      7 ≤ ((runs 7 0 0).clc.get 0).alignedRun ∧ ((runs 7 0 0).clc.get 0).headerAligned = true ∧
      (runs 7 0 0).htu.anchor = (runs 7 0 0).lowestLocked) ∧
    State.steady (relocking) ∧
    (relocking.link 0 = .acquire ∧ relocking.unitOf 0 = some 0 ∧ (sample true).aligns (relocking.ftr.get 0).mode = true ∧
      7 ≤ (relocking.clc.get 0).alignedRun ∧ (relocking.clc.get 0).headerAligned = true ∧ relocking.htu.anchor = relocking.lowestLocked ∧
      relocking.cpm.subs = [⟨3, 0, 0⟩] ∧ after (.sample 0 (sample true)) relocking (fun t => !t.isLocked 3 &&
      t.plc.plan.any (fun e => e.change == .link (.revert 3 0))) = true) ∧
    (relocking.substitutes ∧ relocking.backoffWithin 0 0 ∧ relocking.backoffWithin 0 3) :=
  ⟨steady_of (by decide +kernel), by decide +kernel, steady_of (by decide +kernel), by decide +kernel, by
    unfold State.substitutes State.linkOpen State.backoffWithin
    decide +kernel⟩

theorem witness_FourthUnalignedLosesLock :
    State.steady (shaky 3 0) ∧
    ((shaky 3 0).link 0 = .locked ∧ (shaky 3 0).unitOf 0 = some 0 ∧ (shaky 3 0).htu.anchor = (shaky 3 0).lowestLocked ∧
      (sample false).aligns ((shaky 3 0).ftr.get 0).mode = false ∧ ((shaky 3 0).clc.get 0).unalignedRun = 3) ∧
    State.steady (shaky 0 3) ∧
    ((shaky 0 3).link 0 = .locked ∧ ((shaky 0 3).clc.get 0).headerRun = 3 ∧ (shaky 0 3).settings.top < (header 8 true false).profile ∧
      (header 7 false false).profile ≤ (shaky 0 3).settings.top ∧ (header 7 false false).slot = none ∧
      (header 7 false false).aligned = false) ∧
    (State.capacityLaw (shaky 3 0)) ∧
    (State.capacityLaw (shaky 0 3)) :=
  ⟨steady_of (by decide +kernel), by decide +kernel, steady_of (by decide +kernel), by decide +kernel, capacityLaw_of (by decide +kernel),
    capacityLaw_of (by decide +kernel)⟩

/-- A sample far below the required quality. -/
def deep : SampleData := ⟨0, 0, 0, true, true, 200, 3⟩

/-- A receive profile far above what the ring shows. -/
def troubled : State :=
  { (adapting live fun a => { a with rxProfile := 7 }) with ftr := live.ftr.map fun f => { f with ring := List.replicate 63 ⟨0, 0, 0, true, true, 200, 3, .joint⟩, errorRun := 2 } }

theorem witness_EmergencyEntersDropping :
    State.steady (troubled) ∧
    (troubled.link 0 = .locked ∧ troubled.unitOf 0 = some 0 ∧ deep.aligns (troubled.ftr.get 0).mode = true ∧
      (troubled.clc.get 0).headerRun < 4 ∧ (troubled.ade.get 0).state ≠ .dropping ∧
      ({ troubled with ftr := troubled.ftr.set 0 ((troubled.ftr.get 0).sampled deep) } : State).emergencyHolds 0 = true) ∧
    (State.capacityLaw (troubled)) :=
  ⟨steady_of (by decide +kernel), by decide +kernel, capacityLaw_of (by decide +kernel)⟩

theorem witness_samples_in_range : (sample true).inRange ∧ (sample false).inRange ∧ deep.inRange := by
  unfold SampleData.inRange
  decide +kernel

theorem witness_RequestIsAnsweredByItsState :
    State.steady (base) ∧
    (base.link 0 ≠ .acquire ∧ base.link 0 ≠ .locked) ∧
    State.steady (acquiring) ∧
    (acquiring.link 0 = .acquire ∧ acquiring.plc.plan = [] ∧ ¬((0 : FrameNo) = 0 ∧ acquiring.htu.anchor = some 0)) ∧
    State.steady (live) ∧
    (live.link 0 = .locked ∧ live.unitOf 0 = some 0 ∧ live.htu.anchor = some 0 ∧ live.plc.plan = []) :=
  ⟨steady_of (by decide +kernel), by decide +kernel, steady_of (by decide +kernel), by decide +kernel, steady_of (by decide +kernel),
    by decide +kernel⟩

/-- A packet whose bytes are all staged, and its first block in the staging of unit 0. -/
def laden (s : State) : State := staged (packed s defaultEntry 65)

/-- Carrier 1 mirrors carrier 0, with a pair frame record or none. -/
def paired (r : Option PairRecord) : State :=
  let s := formed (staged { live with settings := { defaultSettings with roles := ⟨.traffic, .mirror 0, .traffic, .traffic⟩ },
                                      cpm := { live.cpm with acting := ⟨some .traffic, some .mirror, some .traffic, some .traffic⟩ } })
  { s with sched := { s.sched with staging := s.sched.staging.modify 0 fun g => { g with record := r } } }

/-- The record of frame 1 of superframe 0, taken by carrier 0. -/
def recordOne : PairRecord := ⟨0, 1, 0, some block :: List.replicate 7 none, [0]⟩

theorem witness_LockedFrameCarriesStagedBlocks :
    State.steady (staged live) ∧
    ((staged live).link 0 = .locked ∧ (staged live).unitOf 0 = some 0 ∧ (staged live).isPair 0 = false ∧ (staged live).plc.plan = [] ∧
      ¬((1 : FrameNo) = 0 ∧ (staged live).htu.anchor = some 0)) ∧
    State.steady (laden live) ∧
    ((laden live).link 0 = .locked ∧ (laden live).isPair 0 = false ∧ (laden live).inService 0 = true ∧
      ((laden live).clc.get 0).joined = true) ∧
    ((laden live).nothingToStage) ∧
    ((laden live).accountLaw) ∧
    State.steady (paired none) ∧
    ((paired none).link 1 = .locked ∧ (paired none).unitOf 1 = some 0 ∧ (paired none).isPair 0 = true ∧ (paired none).inService 0 = true ∧
      ((paired none).clc.get 1).joined = true ∧ ((paired none).sched.staging.get 0).record = none ∧ (paired none).plc.plan = []) ∧
    ((laden live).Fills 0 0 1 none ((laden live).popped 0) ∧ (laden live).Fills 0 0 0 (some ((laden live).greeting 0)) (laden live).scu ∧
      (laden live).greets 0 0) ∧
    ((paired none).nothingToStage) ∧
    ((paired none).accountLaw) ∧
    State.steady (paired (some recordOne)) ∧
    ((paired (some recordOne)).link 1 = .locked ∧ (paired (some recordOne)).isPair 0 = true ∧
      ((paired (some recordOne)).sched.staging.get 0).record = some recordOne ∧ (paired (some recordOne)).inService 0 = true ∧
      ((paired (some recordOne)).clc.get 1).joined = true) ∧
    State.steady (ctl (paired none) 1 fun c => { c with joined := false }) ∧
    (let s := ctl (paired none) 1 fun c => { c with joined := false }; s.link 1 = .locked ∧ s.isPair 0 = true ∧
      (s.clc.get 1).joined = false ∧ ¬((1 : FrameNo) = 0 ∧ s.htu.anchor = some 1)) :=
  ⟨steady_of (by decide +kernel), by decide +kernel, steady_of (by decide +kernel), by decide +kernel, by
    unfold State.nothingToStage
    decide +kernel, by
    unfold State.accountLaw Lane.numbered
    decide +kernel, steady_of (by decide +kernel), by decide +kernel, by
    unfold State.Fills State.greets
    decide +kernel, by
    unfold State.nothingToStage
    decide +kernel, by
    unfold State.accountLaw Lane.numbered
    decide +kernel, steady_of (by decide +kernel), by decide +kernel, steady_of (by decide +kernel), by decide +kernel⟩

theorem witness_noneDue :
    base.noneDue 0 ∧ live.noneDue 0 ∧ acquiring.noneDue 0 ∧ (staged live).noneDue 0 ∧ (laden live).noneDue 0 ∧ (paired none).noneDue 0 ∧
    (paired (some recordOne)).noneDue 0 := by
  unfold State.noneDue
  decide +kernel

/-- Is `e` the one entry of a plan that is due at superframe `h`, in a part whose carrier 0 takes requests? -/
def requestDue (s : State) (e : Entry) (h : Hsn) : Bool :=
  (s.link 0 == .locked || s.link 0 == .acquire) && s.htu.anchor == s.lowestLocked && s.plc.plan == [e] && !e.isRx && e.state == .agreed &&
    e.target == some h

theorem witness_RequestAppliesTheProfileEntry :
    State.steady (planned (live) ⟨0, .txProfile 0 2, some 5, .peer, .agreed, 0⟩) ∧
    (requestDue (planned (live) ⟨0, .txProfile 0 2, some 5, .peer, .agreed, 0⟩) ⟨0, .txProfile 0 2, some 5, .peer, .agreed, 0⟩ 5 = true) ∧
    State.steady (planned (paired none) ⟨0, .txProfile 0 2, some 5, .peer, .agreed, 0⟩) ∧
    (requestDue (planned (paired none) ⟨0, .txProfile 0 2, some 5, .peer, .agreed, 0⟩) ⟨0, .txProfile 0 2, some 5, .peer, .agreed, 0⟩ 5 = true) ∧
    State.steady (planned (acquiring) ⟨0, .txProfile 1 2, some 5, .peer, .agreed, 0⟩) ∧
    (requestDue (planned (acquiring) ⟨0, .txProfile 1 2, some 5, .peer, .agreed, 0⟩) ⟨0, .txProfile 1 2, some 5, .peer, .agreed, 0⟩ 5 = true) ∧
    State.steady (planned (live) ⟨0, .link (.park 0), some 5, .peer, .agreed, 0⟩) ∧
    (requestDue (planned (live) ⟨0, .link (.park 0), some 5, .peer, .agreed, 0⟩) ⟨0, .link (.park 0), some 5, .peer, .agreed, 0⟩ 5 = true) ∧
    State.steady (planned (ctl live 1 fun c => { c with link := .parked }) ⟨0, .link (.wake 1), some 5, .peer, .agreed, 0⟩) ∧
    (requestDue (planned (ctl live 1 fun c => { c with link := .parked }) ⟨0, .link (.wake 1), some 5, .peer, .agreed, 0⟩) ⟨0, .link (.wake 1), some 5, .peer, .agreed, 0⟩ 5 = true) ∧
    State.steady (planned (promoting .locked) ⟨0, .link (.promote 3 0), some 5, .peer, .agreed, 0⟩) ∧
    (requestDue (planned (promoting .locked) ⟨0, .link (.promote 3 0), some 5, .peer, .agreed, 0⟩) ⟨0, .link (.promote 3 0), some 5, .peer, .agreed, 0⟩ 5 = true) ∧
    State.steady (planned ({ reverting true 0 with due := [] }) ⟨0, .link (.revert 3 0), some 5, .peer, .agreed, 0⟩) ∧
    (requestDue (planned ({ reverting true 0 with due := [] }) ⟨0, .link (.revert 3 0), some 5, .peer, .agreed, 0⟩) ⟨0, .link (.revert 3 0), some 5, .peer, .agreed, 0⟩ 5 = true) ∧
    (State.capacityLaw (planned acquiring ⟨0, .txProfile 1 2, some 5, .peer, .agreed, 0⟩)) ∧
    (acquiring.link 0 = .acquire) ∧
    State.steady (planned (ctl live 0 fun c => { c with link := .acquire }) ⟨0, .txProfile 1 2, some 5, .peer, .agreed, 0⟩) ∧
    (let s := planned (ctl live 0 fun c => { c with link := .acquire }) ⟨0, .txProfile 1 2, some 5, .peer, .agreed, 0⟩; requestDue s ⟨0, .txProfile 1 2, some 5, .peer, .agreed, 0⟩ 5 = true ∧
      s.link 0 = .acquire ∧ after (.frameRequest 0 5 1) s (fun t => t.hopCapacity != s.hopCapacity) = true) ∧
    (State.capacityLaw (planned (ctl live 0 fun c => { c with link := .acquire }) ⟨0, .txProfile 1 2, some 5, .peer, .agreed, 0⟩)) ∧
    ((paired none).isPair 0 = true ∧ ((paired none).sched.staging.get 0).record = none ∧
      after (.frameRequest 0 5 1) (planned live ⟨0, .link (.park 0), some 5, .peer, .agreed, 0⟩) (fun t => t.link 0 == .parked &&
      t.out == [.modem 0 .mute]) = true) :=
  ⟨steady_of (by decide +kernel), by decide +kernel, steady_of (by decide +kernel), by decide +kernel, steady_of (by decide +kernel),
    by decide +kernel, steady_of (by decide +kernel), by decide +kernel, steady_of (by decide +kernel), by decide +kernel,
    steady_of (by decide +kernel), by decide +kernel, steady_of (by decide +kernel), by decide +kernel, capacityLaw_of (by decide +kernel),
    by decide +kernel, steady_of (by decide +kernel), by decide +kernel, capacityLaw_of (by decide +kernel), by decide +kernel⟩

/-- The frame that the staged block goes out in. -/
theorem witness_TrafficOnlyOnJoinedCarriers :
    ∃ t h m bs, exec (.frameRequest 0 0 1) (staged live) = .next t ∧ .frame 0 h m bs ∈ t.out ∧ some block ∈ bs := by
  refine ⟨_, ⟨0, 0, 1, false, false, false, none⟩, some (.s4, .r12), some block :: List.replicate 7 none, rfl, ?_, by decide +kernel⟩
  decide +kernel

/-- Carrier 0 in ACQUIRE, its aligned run at 8. -/
def ready : State := ctl acquiring 0 fun c => { c with alignedRun := 8 }

theorem witness_HeaderOffALockedCarrier :
    State.steady (base) ∧
    (base.link 0 = .down ∧ base.unitOf 0 = some 0) ∧
    State.steady (heldOff) ∧
    (heldOff.link 0 = .holdoff) ∧
    State.steady (parked) ∧
    (parked.link 1 = .parked ∧ parked.unitOf 1 = some 1 ∧ parked.settings.top < 8) ∧
    State.steady (acquiring) ∧
    (acquiring.link 0 = .acquire ∧ acquiring.unitOf 0 = some 0 ∧ acquiring.htu.anchor = acquiring.lowestLocked) ∧
    (acquiring.settings.top < (header 8 true false).profile) ∧
    ((header 7 true false).profile ≤ acquiring.settings.top ∧ (header 7 true false).slot = none ∧ ¬((header 7 true false).aligned = true ∧
      8 ≤ (acquiring.clc.get 0).alignedRun)) ∧
    State.steady (ready) ∧
    (ready.link 0 = .acquire ∧ ready.unitOf 0 = some 0 ∧ ready.htu.anchor = ready.lowestLocked ∧
      (header 0 true false).profile ≤ ready.settings.top ∧ (header 0 true false).drop = false ∧ 8 ≤ (ready.clc.get 0).alignedRun) :=
  ⟨steady_of (by decide +kernel), by decide +kernel, steady_of (by decide +kernel), by decide +kernel, steady_of (by decide +kernel),
    by decide +kernel, steady_of (by decide +kernel), by decide +kernel, by decide +kernel, by decide +kernel,
    steady_of (by decide +kernel), by decide +kernel⟩

/-- Four units at transmit profile 3. -/
def falls : State := formed { live with plc := { live.plc with txProfile := .of 3 } }

/-- Unit 0 in DROPPING. -/
def dropping : State := adapting live fun a => { a with state := .dropping, rxProfile := 3 }

theorem witness_HeaderOnALockedCarrier :
    State.steady (dropping) ∧
    (dropping.link 0 = .locked ∧ dropping.unitOf 0 = some 0 ∧ (header 0 true true).profile ≤ dropping.settings.top ∧
      (dropping.clc.get 0).unalignedRun < 4 ∧ (dropping.ade.get 0).state = .dropping ∧ (header 0 true true).drop = true ∧
      (header 0 true true).profile ≠ (dropping.ade.get 0).rxProfile) ∧
    State.steady (shaky 0 2) ∧
    ((shaky 0 2).link 0 = .locked ∧ ((shaky 0 2).clc.get 0).headerRun < 3 ∧ (shaky 0 2).isPair 0 = false ∧
      ((shaky 0 2).clc.get 0).unalignedRun < 4 ∧ (shaky 0 2).settings.top < 8 ∧ (header 7 false false).aligned = false) ∧
    ((header 7 true false).drop = false ∧ (header 7 true false).profile ≤ dropping.settings.top) ∧
    (State.capacityLaw (dropping)) ∧
    (State.capacityLaw (falls)) ∧
    State.steady (falls) ∧
    (falls.link 0 = .locked ∧ falls.unitOf 0 = some 0 ∧ falls.isPair 0 = false ∧ (falls.clc.get 0).unalignedRun < 4 ∧
      after (.frameReceived 0 (some (header 0 true true)) []) falls (fun t => t.sched.capacity < falls.sched.capacity) = true) :=
  ⟨steady_of (by decide +kernel), by decide +kernel, steady_of (by decide +kernel), by decide +kernel, by decide +kernel,
    capacityLaw_of (by decide +kernel), capacityLaw_of (by decide +kernel), steady_of (by decide +kernel), by decide +kernel⟩

/-- The link of tenant 0 UP. -/
def open_ : State := linked live fun x => { x with up := true }

/-- `s` with the cache set of lane 31 of tenant 0 replaced. -/
def caching (s : State) (c : CacheSet) : State := { s with rxa := { s.rxa with sets := s.rxa.sets.set (setIndex 0 30).val c } }

/-- Lane 31 of tenant 0 has collected `n` bytes in way 0 and expects sequence 5. -/
def collecting (n : Nat) : State := caching open_ ⟨some ⟨0, 30, 5, List.replicate n 1⟩, none, true⟩

/-- Both ways of that set are taken by other lanes. -/
def taken : State := caching open_ ⟨some ⟨2, 30, 5, [1]⟩, some ⟨0, 14, 5, [1]⟩, true⟩

/-- Idle and bad blocks. -/
def idles (n : Nat) : List RxBlock := ⟨false, some 1, some 3, some 0, [], []⟩ :: List.replicate n ⟨true, none, none, none, [], List.replicate 64 0⟩

/-- A block of lane 31 of tenant 0 in sequence 5. -/
def arriving (first last : Bool) : RxBlock := blockOf 0 30 5 64 first last (List.replicate 64 7)

/-- A header of profile 0 and eight blocks, one of which may carry traffic, reach `s`. -/
theorem hears_of {s : State} {b : RxBlock} (h : (s.running && decide (s.startTransmitters = s)) = true)
    (g : s.link 0 = .locked ∧ s.unitOf 0 = some 0 ∧ s.isPair 0 = false ∧ (header 0 true false).profile ≤ s.settings.top ∧
      (header 0 true false).slot = none ∧ (header 0 true false).aligned = true ∧ (s.clc.get 0).unalignedRun < 4 ∧
      (∀ y ∈ idles 2 ++ idles 3, y.good = false ∨ y.tenant = none) ∧
      (idles 2 ++ [b] ++ idles 3).length = s.settings.blocks 0) :
    s.HearsBlock 0 0 (header 0 true false) (idles 2) b (idles 3) := ⟨steady_of h, g⟩

/-- The egress buffer of tenant 0 full, its link busy. -/
def filled : State :=
  let s := linked open_ fun x => { x with tx := some ⟨.reply, 0, [0x81, 1]⟩ }
  { s with rxa := { s.rxa with egress := s.rxa.egress.set 0 (List.replicate 16 ⟨0, List.replicate 2048 0⟩) } }

theorem witness_CompletedPacketIsHandled :
    State.HearsBlock (open_) 0 0 (header 0 true false) (idles 2) (arriving true true) (idles 3) ∧
    ((State.rxSet (open_) 0 30).find 0 30 = none ∧ open_.settings.enrolled 0 = true ∧ (open_.links.get 0).up = true ∧
      unitsHeld (open_.rxa.egress.get 0) ≤ 511) ∧
    State.HearsBlock (collecting 1984) 0 0 (header 0 true false) (idles 2) (arriving false true) (idles 3) ∧
    ((State.rxSet (collecting 1984) 0 30).find 0 30 = some false ∧
      (State.rxSet (collecting 1984) 0 30).way false = some ⟨0, 30, BitVec.ofNat 4 5, List.replicate 1984 1⟩ ∧ 1984 + 64 ≤ 2048) ∧
    State.HearsBlock (live) 0 0 (header 0 true false) (idles 2) (arriving true true) (idles 3) ∧
    ((live.links.get 0).up = false ∧ live.settings.enrolled 0 = true) ∧
    State.HearsBlock ({ open_ with settings := { defaultSettings with shares := .of none } }) 0 0 (header 0 true false) (idles 2) (arriving true true) (idles 3) ∧
    (({ open_ with settings := { defaultSettings with shares := .of none } } : State).settings.enrolled 0 = false) ∧
    State.HearsBlock (filled) 0 0 (header 0 true false) (idles 2) (arriving true true) (idles 3) ∧
    (512 - 1 < unitsHeld ((filled : State).rxa.egress.get 0)) :=
  ⟨hears_of (by decide +kernel) (by decide +kernel), by decide +kernel, hears_of (by decide +kernel) (by decide +kernel),
    by decide +kernel, hears_of (by decide +kernel) (by decide +kernel), by decide +kernel,
    hears_of (by decide +kernel) (by decide +kernel), by decide +kernel, hears_of (by decide +kernel) (by decide +kernel),
    by decide +kernel⟩

theorem witness_BlocksAreReassembled :
    State.HearsBlock (open_) 0 0 (header 0 true false) (idles 2) (arriving false false) (idles 3) ∧
    ((State.rxSet (open_) 0 30).find 0 30 = none ∧ (State.rxSet (open_) 0 30).way (State.rxSet (open_) 0 30).allots = none) ∧
    State.HearsBlock (taken) 0 0 (header 0 true false) (idles 2) (arriving true false) (idles 3) ∧
    ((State.rxSet (taken) 0 30).find 0 30 = none ∧
      (State.rxSet (taken) 0 30).way (State.rxSet (taken) 0 30).allots = some ⟨0, 14, 5, [1]⟩) ∧
    State.HearsBlock (collecting 10) 0 0 (header 0 true false) (idles 2) (⟨true, some 0, some 31, some 5, [⟨0, 20, false, true⟩, ⟨20, 44, true, false⟩], List.replicate 64 7⟩) (idles 3) ∧
    ((State.rxSet (collecting 10) 0 30).find 0 30 = some false ∧
      (State.rxSet (collecting 10) 0 30).way false = some ⟨0, 30, BitVec.ofNat 4 5, List.replicate 10 1⟩) ∧
    State.HearsBlock (collecting 1985) 0 0 (header 0 true false) (idles 2) (arriving false true) (idles 3) ∧
    ((State.rxSet (collecting 1985) 0 30).find 0 30 = some false ∧ 2048 < 1985 + 64) ∧
    State.HearsBlock (collecting 10) 0 0 (header 0 true false) (idles 2) (blockOf 0 30 6 64 true false (List.replicate 64 7)) (idles 3) ∧
    ((State.rxSet (collecting 10) 0 30).find 0 30 = some false ∧ (5 : Seq) ≠ BitVec.ofNat 4 6) :=
  ⟨hears_of (by decide +kernel) (by decide +kernel), by decide +kernel, hears_of (by decide +kernel) (by decide +kernel),
    by decide +kernel, hears_of (by decide +kernel) (by decide +kernel), by decide +kernel,
    hears_of (by decide +kernel) (by decide +kernel), by decide +kernel, hears_of (by decide +kernel) (by decide +kernel),
    by decide +kernel⟩

/-- The mirror pair with carrier 1 not joined; the one lane bound to it has its blocks in the open record alone. -/
def recordOnly : State :=
  let s := laned (ctl (paired (some recordOne)) 1 fun c => { c with joined := false }) fun z => { z with bound := some ⟨0, defaultEntry⟩ }
  { s with sched := { s.sched with staging := s.sched.staging.modify 0 fun g => { g with assured := [], other := [] } } }

/-- Loss of the last joined member unbinds a lane whose blocks stand in the pair frame record alone (R154). -/
theorem test_recordAlone_unbinds :
    after (.modemFault 0) recordOnly (fun t => (t.sched.lane 0 0).bound == none && (t.sched.staging.get 0).record == none) = true := by
  decide +kernel

/-- The PARK of carrier 0 stands agreed on the draining mirror pair, both members joined, its blocks in the open record that carrier 1 has
taken. -/
def recordDraining : State :=
  let s := laned (paired (some { recordOne with takenBy := [1] })) fun z => { z with bound := some ⟨0, defaultEntry⟩ }
  formed { s with
    sched := { s.sched with staging := s.sched.staging.modify 0 fun g => { g with assured := [], other := [] } }
    plc := { s.plc with draining := s.plc.draining.set 0 true, plan := [⟨0, .link (.park 0), some 5, .peer, .agreed, 0⟩] } }

/-- A PARK of a draining pair unbinds a lane whose blocks stand in the record that the parked member alone has not taken (R152, R154). -/
theorem test_recordAlone_unbinds_at_park :
    after (.frameRequest 0 5 1) recordDraining (fun t => t.link 0 == .parked && (t.sched.lane 0 0).bound == none &&
      (t.sched.staging.get 0).record == none && !t.plc.draining.get 0) = true := by decide +kernel

/-- A copy that breaks R12 gives way to the mirror's (R12, R177). -/
theorem test_unsound_copy_gives_way :
    chooseCopy { arriving true true with lane := some 0 } (arriving true true) = arriving true true ∧
    chooseCopy (arriving true true) { arriving true true with lane := some 0 } = arriving true true ∧
    chooseCopy ⟨true, none, none, none, [⟨0, 1, true, true⟩], List.replicate 64 0⟩ (arriving true true) = arriving true true := by
  decide +kernel

/-- The mirror pair with a frame of member `m` held. -/
def holding (m : CarrierId) (h : Hsn) (mirror : Bool) : State :=
  { paired none with rxa := { live.rxa with hold := live.rxa.hold.set 0 (some ⟨m, h, 5, 0, mirror, idles 7⟩) } }

theorem witness_MirrorFramesAreCombined :
    State.steady (paired none) ∧
    (State.link (paired none) 0 = .locked ∧ State.unitOf (paired none) 0 = some 0 ∧ State.isPair (paired none) 0 = true ∧
      (State.clc (paired none) |>.get 0).unalignedRun < 4 ∧ (State.clc (paired none) |>.get 0).headerRun < 3 ∧
      (State.htu (paired none)).anchor = State.lowestLocked (paired none) ∧ (paired none).rxa.hold.get 0 = none ∧
      (paired none).otherLocked 0 = true ∧ (header 0 true false).profile ≤ (paired none).settings.top ∧
      (idles 7).length = (paired none).settings.blocks 0) ∧
    State.steady (ctl (paired none) 1 fun c => { c with link := .acquire }) ∧
    (State.link (ctl (paired none) 1 fun c => { c with link := .acquire }) 0 = .locked ∧
      State.unitOf (ctl (paired none) 1 fun c => { c with link := .acquire }) 0 = some 0 ∧
      State.isPair (ctl (paired none) 1 fun c => { c with link := .acquire }) 0 = true ∧
      (State.clc (ctl (paired none) 1 fun c => { c with link := .acquire }) |>.get 0).unalignedRun < 4 ∧
      (State.clc (ctl (paired none) 1 fun c => { c with link := .acquire }) |>.get 0).headerRun < 3 ∧
      (State.htu (ctl (paired none) 1 fun c => { c with link := .acquire })).anchor = State.lowestLocked (ctl (paired none) 1 fun c => { c with link := .acquire }) ∧
      State.otherLocked (ctl (paired none) 1 fun c => { c with link := .acquire }) 0 = false) ∧
    State.steady (holding 0 0 false) ∧
    (State.link (holding 0 0 false) 0 = .locked ∧ State.unitOf (holding 0 0 false) 0 = some 0 ∧ State.isPair (holding 0 0 false) 0 = true ∧
      (State.clc (holding 0 0 false) |>.get 0).unalignedRun < 4 ∧ (State.clc (holding 0 0 false) |>.get 0).headerRun < 3 ∧
      (State.htu (holding 0 0 false)).anchor = State.lowestLocked (holding 0 0 false) ∧
      (holding 0 0 false).rxa.hold.get 0 = some ⟨0, 0, 5, 0, false, idles 7⟩) ∧
    State.steady (holding 1 0 true) ∧
    (State.link (holding 1 0 true) 0 = .locked ∧ State.unitOf (holding 1 0 true) 0 = some 0 ∧ State.isPair (holding 1 0 true) 0 = true ∧
      (State.clc (holding 1 0 true) |>.get 0).unalignedRun < 4 ∧ (State.clc (holding 1 0 true) |>.get 0).headerRun < 3 ∧
      (State.htu (holding 1 0 true)).anchor = State.lowestLocked (holding 1 0 true) ∧
      (holding 1 0 true).rxa.hold.get 0 = some ⟨1, (header 0 true false).hsn, (header 0 true false).frame, (header 0 true false).profile, true, idles 7⟩ ∧
      (1 : CarrierId) ≠ 0 ∧ (1 : CarrierId) ≠ 0) ∧
    State.steady (holding 1 9 true) ∧
    (State.link (holding 1 9 true) 0 = .locked ∧ State.unitOf (holding 1 9 true) 0 = some 0 ∧ State.isPair (holding 1 9 true) 0 = true ∧
      (State.clc (holding 1 9 true) |>.get 0).unalignedRun < 4 ∧ (State.clc (holding 1 9 true) |>.get 0).headerRun < 3 ∧
      (State.htu (holding 1 9 true)).anchor = State.lowestLocked (holding 1 9 true) ∧ (9 : Hsn) ≠ (header 0 true false).hsn) :=
  ⟨steady_of (by decide +kernel), by decide +kernel, steady_of (by decide +kernel), by decide +kernel, steady_of (by decide +kernel),
    by decide +kernel, steady_of (by decide +kernel), by decide +kernel, steady_of (by decide +kernel), by decide +kernel⟩

theorem witness_HelloSetsThePeerView :
    State.steady (base) ∧
    (¬(1 ≤ (⟨.lead, 4, .full, 0, .of 15, .of 15, 4, 0⟩ : Hello).limit)) ∧
    State.steady (adapting base fun a => { a with asked := some 0, atCap := some (some 15, some 14) }) ∧
    (let h : Hello := ⟨.lead, 4, .full, 4, .of 14, .of 15, 4, 0⟩; 1 ≤ h.limit ∧ h.limit ≤ 4 ∧ (∀ j, h.level.get j ≤ 15 ∧
      h.cap.get j ≤ 15) ∧ h.hold ≤ 4 ∧ h.hsn = 4 ∧ h.level.get 0 < 15) :=
  ⟨steady_of (by decide +kernel), by decide +kernel, steady_of (by decide +kernel), by decide +kernel⟩

theorem witness_ProfileProposalIsAnswered :
    State.steady (live) ∧
    (live.profileReason 0 8 = some .badValue ∧ live.unitOf 0 = some 0 ∧ live.profileReason 0 0 = none ∧
      live.profileReason 0 7 = some .busy ∧ 11 < 12) ∧
    (State.capacityLaw (live)) ∧
    (State.capacityLaw (formed { live with peer := { live.peer with digest := some live.settings.digest }, plc := { live.plc with txProfile := .of 3 } })) ∧
    State.steady (formed { live with peer := { live.peer with digest := some live.settings.digest }, plc := { live.plc with txProfile := .of 3 } }) ∧
    (let s : State :=
      formed { live with peer := { live.peer with digest := some live.settings.digest }, plc := { live.plc with txProfile := .of 3 } }; s.profileReason 0 7 = none ∧
      s.profileReason 0 2 = none ∧ s.profileReason 0 3 = none) :=
  ⟨steady_of (by decide +kernel), by decide +kernel, capacityLaw_of (by decide +kernel), capacityLaw_of (by decide +kernel),
    steady_of (by decide +kernel), by decide +kernel⟩

/-- A local PARK of carrier 1 that has not been answered, the idle runs at `n`. -/
def crossed (r : EndRole) (n : Nat) : State :=
  planned { live with settings := { defaultSettings with endRole := r }, cpm := { live.cpm with idleRun := .of n } } ⟨9, .link (.park 1), none, .local, .proposed, 0⟩

theorem witness_LinkProposalIsAnswered :
    State.steady (base) ∧
    (changeOk (.park 0) = true ∧ base.linkReason (.park 0) = some .notLocked) ∧
    (changeOk (.promote 1 1) = false ∧ changeOk (.revert 2 2) = false) ∧
    State.steady (idle 64) ∧
    ((idle 64).linkReason ((idle 64).readChange (.park 1)) = none) ∧
    (State.capacityLaw (idle 64)) ∧
    State.steady (crossed .lead 0) ∧
    ((crossed .lead 0).linkReason ((crossed .lead 0).readChange (.park 1)) = some .superseded) ∧
    State.steady (crossed .follow 0) ∧
    ((crossed .follow 0).linkReason ((crossed .follow 0).readChange (.park 1)) = some .superseded ∧
      (crossed .follow 0).settings.endRole = .follow ∧
      ({ crossed .follow 0 with plc := { (crossed .follow 0).plc with plan := (crossed .follow 0).plc.plan.filter fun e => !(crossed .follow 0).crosses (.park 1) e } } : State).lateReason (.park 1) = some .busy) ∧
    (State.capacityLaw (crossed .follow 0)) ∧
    State.steady (crossed .follow 64) ∧
    ((crossed .follow 64).linkReason ((crossed .follow 64).readChange (.park 1)) = some .superseded ∧
      (crossed .follow 64).settings.endRole = .follow ∧
      ({ crossed .follow 64 with plc := { (crossed .follow 64).plc with plan := (crossed .follow 64).plc.plan.filter fun e => !(crossed .follow 64).crosses (.park 1) e } } : State).lateReason (.park 1) = none) ∧
    (State.capacityLaw (crossed .follow 64)) :=
  ⟨steady_of (by decide +kernel), by decide +kernel, by decide +kernel, steady_of (by decide +kernel), by decide +kernel,
    capacityLaw_of (by decide +kernel), steady_of (by decide +kernel), by decide +kernel, steady_of (by decide +kernel), by decide +kernel,
    capacityLaw_of (by decide +kernel), steady_of (by decide +kernel), by decide +kernel, capacityLaw_of (by decide +kernel)⟩

theorem witness_AnswerSettlesTheProposal_agree :
    State.steady (base) ∧
    (8 < ((9 : Hsn) - base.htu.hsn).toNat ∧ ((8 : Hsn) - base.htu.hsn).toNat ≤ 8 ∧ base.proposedEntry 7 = none) ∧
    State.steady (proposed (.rxProfile 0 1)) ∧
    ((proposed (.rxProfile 0 1)).proposedEntry 7 = some ⟨7, .rxProfile 0 1, none, .local, .proposed, 4⟩ ∧
      (0 : Hsn) = (proposed (.rxProfile 0 1)).htu.hsn) ∧
    State.steady (proposed (.link (.park 1))) ∧
    ((proposed (.link (.park 1))).proposedEntry 7 = some ⟨7, .link (.park 1), none, .local, .proposed, 4⟩ ∧
      (8 : Hsn) ≠ (proposed (.link (.park 1))).htu.hsn) ∧
    State.steady (planned (live) ⟨7, .link (.park 1), none, .local, .proposed, 1⟩) ∧
    (let s := planned (live) ⟨7, .link (.park 1), none, .local, .proposed, 1⟩; s.proposedEntry 7 = some ⟨7, .link (.park 1), none, .local, .proposed, 1⟩ ∧
      s.htu.hsn = 0 ∧ s.htu.anchor = s.lowestLocked ∧ s.link 1 = .locked) ∧
    State.steady (planned (ctl live 1 fun c => { c with link := .parked }) ⟨7, .link (.wake 1), none, .local, .proposed, 1⟩) ∧
    (let s := planned (ctl live 1 fun c => { c with link := .parked }) ⟨7, .link (.wake 1), none, .local, .proposed, 1⟩; s.proposedEntry 7 = some ⟨7, .link (.wake 1), none, .local, .proposed, 1⟩ ∧
      s.htu.hsn = 0 ∧ s.htu.anchor = s.lowestLocked ∧ s.link 1 = .parked) ∧
    State.steady (planned (promoting .locked) ⟨7, .link (.promote 3 0), none, .local, .proposed, 1⟩) ∧
    (let s := planned (promoting .locked) ⟨7, .link (.promote 3 0), none, .local, .proposed, 1⟩; s.proposedEntry 7 = some ⟨7, .link (.promote 3 0), none, .local, .proposed, 1⟩ ∧
      s.htu.hsn = 0 ∧ s.htu.anchor = s.lowestLocked ∧ s.cpm.acting.get 3 = some .standby ∧ s.cpm.acting.get 0 = some .traffic) ∧
    State.steady (planned ({ reverting true 0 with due := [] }) ⟨7, .link (.revert 3 0), none, .local, .proposed, 1⟩) ∧
    (let s := planned ({ reverting true 0 with due := [] }) ⟨7, .link (.revert 3 0), none, .local, .proposed, 1⟩; s.proposedEntry 7 = some ⟨7, .link (.revert 3 0), none, .local, .proposed, 1⟩ ∧
      s.htu.hsn = 0 ∧ s.htu.anchor = s.lowestLocked ∧ (3, 0) ∈ s.cpm.substitutes) ∧
    (State.capacityLaw (proposed (.rxProfile 0 1))) ∧
    (State.capacityLaw (proposed (.link (.park 1)))) ∧
    (State.capacityLaw (planned (live) ⟨7, .link (.park 1), none, .local, .proposed, 1⟩)) ∧
    (State.capacityLaw (planned (ctl live 1 fun c => { c with link := .parked }) ⟨7, .link (.wake 1), none, .local, .proposed, 1⟩)) ∧
    (State.capacityLaw (planned (promoting .locked) ⟨7, .link (.promote 3 0), none, .local, .proposed, 1⟩)) ∧
    (State.capacityLaw (planned ({ reverting true 0 with due := [] }) ⟨7, .link (.revert 3 0), none, .local, .proposed, 1⟩)) :=
  ⟨steady_of (by decide +kernel), by decide +kernel, steady_of (by decide +kernel), by decide +kernel, steady_of (by decide +kernel),
    by decide +kernel, steady_of (by decide +kernel), by decide +kernel, steady_of (by decide +kernel), by decide +kernel,
    steady_of (by decide +kernel), by decide +kernel, steady_of (by decide +kernel), by decide +kernel, capacityLaw_of (by decide +kernel),
    capacityLaw_of (by decide +kernel), capacityLaw_of (by decide +kernel), capacityLaw_of (by decide +kernel),
    capacityLaw_of (by decide +kernel), capacityLaw_of (by decide +kernel)⟩

theorem witness_AnswerSettlesTheProposal_decline :
    State.steady (base) ∧
    (base.proposedEntry 7 = none) ∧
    State.steady (proposed (.rxProfile 0 1)) ∧
    (((proposed (.rxProfile 0 1)).proposedEntry 7).isSome = true ∧ ((proposed (.rxProfile 0 1)).ade.get 0).state = .proposing) ∧
    State.steady (proposed (.link (.park 1))) ∧
    (((proposed (.link (.park 1))).proposedEntry 7).isSome = true ∧ (proposed (.link (.park 1))).unitOfChange (.link (.park 1)) = some 1) ∧
    (State.capacityLaw (proposed (.rxProfile 0 1))) ∧
    (State.capacityLaw (proposed (.link (.park 1)))) :=
  ⟨steady_of (by decide +kernel), by decide +kernel, steady_of (by decide +kernel), by decide +kernel, steady_of (by decide +kernel),
    by decide +kernel, capacityLaw_of (by decide +kernel), capacityLaw_of (by decide +kernel)⟩

/-- A header of profile 0 whose slot holds `raw`. -/
def slotted (raw : RawMessage) : Header := { header 0 true false with slot := some raw }

theorem witness_SlotIsTakenAsItsRow_unparsable : ∀ m : Message, RawMessage.agree none none ≠ m.raw := by
  intro m
  cases m with
  | proposeLink tag c => cases c <;> simp [Message.raw]
  | _ => simp [Message.raw]

theorem witness_SlotIsTakenAsItsRow :
    State.steady (live) ∧
    (live.link 0 = .locked ∧ (slotted (.agree none none)).profile ≤ live.settings.top ∧
      (slotted (Message.raw (.powerAsk 3 0 (-1)))).slot = some (Message.raw (.powerAsk 3 0 (-1)))) ∧
    State.steady (acquiring) ∧
    (acquiring.link 0 = .acquire ∧ (slotted (.agree none none)).profile ≤ acquiring.settings.top) ∧
    State.steady (parked) ∧
    (parked.link 1 = .parked ∧ (slotted (Message.raw (.proposeRx 3 0 12))).profile ≤ parked.settings.top) :=
  ⟨steady_of (by decide +kernel), by decide +kernel, steady_of (by decide +kernel), by decide +kernel, steady_of (by decide +kernel),
    by decide +kernel⟩

theorem witness_PowerAskIsAnswered :
    (¬((-3 ≤ (0 : Int) ∧ (0 : Int) ≤ -1) ∨ (1 ≤ (0 : Int) ∧ (0 : Int) ≤ 8))) ∧
    State.steady (live) ∧
    (live.askRule 0 (-3) = (9, .granted) ∧ live.askRule 0 8 = (15, .granted) ∧ base.askRule 0 1 = (12, .budget)) :=
  ⟨by decide +kernel, steady_of (by decide +kernel), by decide +kernel⟩

theorem witness_PowerSetEndsTheAsk :
    State.steady (base) ∧
    (15 < 16) ∧
    State.steady (base) ∧
    (¬(15 < 15 ∨ ((none : Option Tag) = none ∧ PowerResult.mode ≠ .mode)) ∧ (∀ u, (base.ade.get u).ask = none)) ∧
    State.steady (asking) ∧
    ((asking.ade.get 0).ask = some ⟨0, 0, 3, 2⟩ ∧ (asking.ade.get 0).asked = some 0 ∧ (∀ v, v ≠ 0 → (asking.ade.get v).ask = none)) :=
  ⟨steady_of (by decide +kernel), by decide +kernel, steady_of (by decide +kernel), by decide +kernel, steady_of (by decide +kernel),
    by decide +kernel⟩

theorem witness_SupplyChangeSetsTheTarget : State.reset.settled ∧ base.settled :=
  ⟨by unfold State.settled; decide +kernel, by unfold State.settled; decide +kernel⟩

theorem witness_LinkTransitions :
    State.steady (open_) ∧
    ((open_.links.get 0).up = true ∧ (open_.links.get 0).counters.linkDown ≤ 4294967295) ∧
    State.steady (base) ∧
    (let x := base.links.get 0; x.up = false ∧ x.tx = none ∧ x.reply = none ∧ x.notice = none ∧ x.sent = false ∧
      base.rxa.egress.get 0 = []) :=
  ⟨steady_of (by decide +kernel), by decide +kernel, steady_of (by decide +kernel), by decide +kernel⟩

/-- `n` commands that wait. -/
def queued (n : Nat) : State := linked open_ fun x => { x with commands := List.replicate n [0x77] }

theorem witness_goodFrames :
    goodFrame 0 [0x04] (linkFrameBytes 0 [0x04]) ∧ goodFrame 31 [1, 2] (linkFrameBytes 31 [1, 2]) ∧
      ∀ lane payload, ¬goodFrame lane payload [] := by
  refine ⟨by unfold goodFrame; decide +kernel, by unfold goodFrame; decide +kernel, ?_⟩
  rintro lane payload ⟨_, _, _, h⟩
  simp at h

theorem witness_TenantFrameIsChecked :
    State.steady (queued 8) ∧
    (¬(queued 8).links.a0.commands.length < 8) ∧
    State.steady (queued 7) ∧
    ((queued 7).links.a0.up = true ∧ (queued 7).links.a0.commands.length < 8) ∧
    State.steady (base) ∧
    ((base.links.get 0).up = false) :=
  ⟨steady_of (by decide +kernel), by decide +kernel, steady_of (by decide +kernel), by decide +kernel, steady_of (by decide +kernel),
    by decide +kernel⟩

/-- Lane 1 of tenant 0 valid or not, the reserve full, and `n` shared units held. -/
def taking (v : Bool) (n : Nat) : State :=
  laned { open_ with sched := { open_.sched with reserveHeld := .of 512, sharedHeld := n } } fun z => { z with written := ⟨v, .bulk, .of true, .watchdog, 255⟩ }

/-- A valid lane of class `c` with credit, and nothing to stage. -/
def admitting (c : LaneClass) : State :=
  laned { open_ with sched := { open_.sched with credit := .of 4 } } fun z => { z with written := { defaultEntry with cls := c } }

theorem witness_TrafficIsAdmittedOrDiscarded :
    State.steady (taking false 0) ∧
    ((taking false 0).settings.enrolled 0 = true ∧ ((taking false 0).sched.lane 0 0).written.valid = false) ∧
    State.steady (taking true 1023) ∧
    (((taking true 1023).sched.lane 0 0).written.valid = true ∧ (taking true 1023).roomFor 0 .bulk 1 = some .shared ∧
      (taking true 1023).roomFor 0 .bulk 2 = none) ∧
    State.steady (open_) ∧
    (open_.roomFor 0 .bulk 1 = some .reserve ∧ (open_.links.get 0).up = true ∧ (open_.links.get 0).commands.length < 8) ∧
    State.steady (admitting .assured) ∧
    ((admitting .assured).settings.enrolled 0 = true ∧ ((admitting .assured).sched.lane 0 0).written.valid = true ∧
      (admitting .assured).roomFor 0 .assured 2 = some .reserve ∧ ((admitting .assured).sched.lane 0 0).bound = none ∧
      (∀ w, ((admitting .assured).sched.staging.get w).holdsLane 0 0 = false) ∧ 0 + 2 ≤ 256 ∧ 1 ≤ (admitting .assured).settings.weight 0 ∧
      ((admitting .assured).sched.staging.get 0).held = 0) ∧
    ((admitting .assured).nothingToStage) ∧
    ((admitting .assured).accountLaw) ∧
    ((admitting .assured).Chooses ((admitting .assured).sched.lane 0 0).written 0) :=
  ⟨steady_of (by decide +kernel), by decide +kernel, steady_of (by decide +kernel), by decide +kernel, steady_of (by decide +kernel),
    by decide +kernel, steady_of (by decide +kernel), by decide +kernel, by
    unfold State.nothingToStage
    decide +kernel, by
    unfold State.accountLaw Lane.numbered
    decide +kernel, by
    unfold State.Chooses
    decide +kernel⟩

/-- A frame in progress with others behind it. -/
def sending (k : TxKind) : State :=
  linked { open_ with rxa := { open_.rxa with egress := open_.rxa.egress.set 0 [⟨0, [1]⟩, ⟨1, [2]⟩] } } fun x => { x with tx := some ⟨k, if k = .egress then 1 else 0, [1]⟩, reply := if k = .reply then none else some [0x81, 1], notice := if k = .notice then none else some [0xC0, 1], sent := true }

theorem witness_SentFrameStartsTheNext :
    State.steady (open_) ∧
    ((open_.links.get 0).up = true ∧ (open_.links.get 0).tx = none) ∧
    State.steady (sending .reply) ∧
    (((sending .reply).links.get 0).tx.isSome = true ∧ ((sending .reply).links.get 0).reply = none ∧
      ((sending .reply).links.get 0).notice.isSome = true) ∧
    State.steady (sending .notice) ∧
    (((sending .notice).links.get 0).reply.isSome = true ∧ ((sending .notice).links.get 0).up = true) ∧
    State.steady (sending .egress) ∧
    (((sending .egress).links.get 0).tx = some ⟨.egress, 1, [1]⟩ ∧ ((sending .egress).links.get 0).up = true) :=
  ⟨steady_of (by decide +kernel), by decide +kernel, steady_of (by decide +kernel), by decide +kernel, steady_of (by decide +kernel),
    by decide +kernel, steady_of (by decide +kernel), by decide +kernel⟩

/-- Tenant 0 has one command at the head of its queue, and another behind it. -/
def told (s : State) (cmd : List Byte) : State := linked s fun x => { x with up := true, commands := [cmd, [0x77]] }

/-- A command at the head of the queue of a steady part with no reply is taken. -/
theorem takes_of {s : State} {j : TenantId} {code : Byte} {args : List Byte} {rest : List (List Byte)}
    (h : (s.running && decide (s.startTransmitters = s)) = true)
    (g : (s.links.get j).up = true ∧ (s.links.get j).replying = false ∧
      ((s.links.get j).commands = (code :: args) :: rest ∨ (s.links.get j).commands = [] ∧ rest = [])) :
    s.TakesCommand j code args rest := ⟨steady_of h, g⟩


theorem witness_ReadCommandsReply :
    State.TakesCommand (told live (0x01 :: [3])) 0 0x01 [3] [[0x77]] ∧
    State.TakesCommand (told live (0x02 :: [0])) 0 0x02 [0] [[0x77]] ∧
    State.TakesCommand (told live (0x03 :: [])) 0 0x03 [] [[0x77]] ∧
    State.TakesCommand (told live (0x04 :: [])) 0 0x04 [] [[0x77]] ∧
    State.TakesCommand (told live (0x05 :: [])) 0 0x05 [] [[0x77]] ∧
    State.TakesCommand (told live (0x06 :: [])) 0 0x06 [] [[0x77]] ∧
    State.TakesCommand (told live (0x10 :: [31])) 0 0x10 [31] [[0x77]] ∧
    State.TakesCommand (told live (0x18 :: [])) 0 0x18 [] [[0x77]] ∧
    State.TakesCommand (told live (0x21 :: [])) 0 0x21 [] [[0x77]] ∧
    State.TakesCommand (open_) 0 0x05 [] [] :=
  ⟨takes_of (by decide +kernel) (by decide +kernel), takes_of (by decide +kernel) (by decide +kernel),
    takes_of (by decide +kernel) (by decide +kernel), takes_of (by decide +kernel) (by decide +kernel),
    takes_of (by decide +kernel) (by decide +kernel), takes_of (by decide +kernel) (by decide +kernel),
    takes_of (by decide +kernel) (by decide +kernel), takes_of (by decide +kernel) (by decide +kernel),
    takes_of (by decide +kernel) (by decide +kernel), takes_of (by decide +kernel) (by decide +kernel)⟩

theorem witness_WriteCommandsWrite :
    State.TakesCommand (told live (0x11 :: (1 :: LaneEntry.bytes ⟨true, .assured, .of true, .hold, 255⟩))) 0 0x11 (1 :: LaneEntry.bytes ⟨true, .assured, .of true, .hold, 255⟩) [[0x77]] ∧
    State.TakesCommand (told live (0x12 :: [4])) 0 0x12 [4] [[0x77]] ∧
    State.TakesCommand (told live (0x19 :: [])) 0 0x19 [] [[0x77]] :=
  ⟨takes_of (by decide +kernel) (by decide +kernel), takes_of (by decide +kernel) (by decide +kernel),
    takes_of (by decide +kernel) (by decide +kernel)⟩

theorem witness_NoticeCommandsMoveTheNoticeState :
    State.TakesCommand (linked (told live [0x20, 0x7F]) fun x => { x with raised := 0x04 }) 0 0x20 [0x7F] [[0x77]] ∧
    State.TakesCommand (linked (told live [0x20, 0]) fun x => { x with mask := 4, raised := 4, sent := true }) 0 0x20 [0] [[0x77]] ∧
    State.TakesCommand (linked (told live [0x22, 4]) fun x => { x with mask := 4, raised := 4, sent := true }) 0 0x22 [4] [[0x77]] :=
  ⟨takes_of (by decide +kernel) (by decide +kernel), takes_of (by decide +kernel) (by decide +kernel),
    takes_of (by decide +kernel) (by decide +kernel)⟩

theorem witness_ResetTenantClearsTheTenant :
    State.TakesCommand (told live (0x30 :: [])) 0 0x30 [] [[0x77]] ∧
    State.TakesCommand (told (laden (bounded false)) [0x30]) 0 0x30 [] [[0x77]] ∧
    State.TakesCommand (linked (told (sending .egress) [0x30]) fun x => { x with reply := none }) 0 0x30 [] [[0x77]] :=
  ⟨takes_of (by decide +kernel) (by decide +kernel), takes_of (by decide +kernel) (by decide +kernel),
    takes_of (by decide +kernel) (by decide +kernel)⟩

theorem witness_BadCommandsChangeNothing :
    State.TakesCommand (told live (0x77 :: [])) 0 0x77 [] [[0x77]] ∧
    State.TakesCommand (told live (0x01 :: [])) 0 0x01 [] [[0x77]] ∧
    State.TakesCommand (told live (0x03 :: [0])) 0 0x03 [0] [[0x77]] ∧
    State.TakesCommand (told live (0x11 :: [1, 2, 3])) 0 0x11 [1, 2, 3] [[0x77]] ∧
    State.TakesCommand (told live (0x01 :: [4])) 0 0x01 [4] [[0x77]] ∧
    State.TakesCommand (told live (0x10 :: [32])) 0 0x10 [32] [[0x77]] ∧
    State.TakesCommand (told live (0x12 :: [5])) 0 0x12 [5] [[0x77]] ∧
    State.TakesCommand (told live (0x20 :: [0x80])) 0 0x20 [0x80] [[0x77]] ∧
    State.TakesCommand (told live (0x11 :: [0, 0, 1, 1])) 0 0x11 [0, 0, 1, 1] [[0x77]] ∧
    State.TakesCommand (told live (0x11 :: [31, 6, 1, 1])) 0 0x11 [31, 6, 1, 1] [[0x77]] ∧
    State.TakesCommand (told live (0x11 :: [1, 15, 0, 1])) 0 0x11 [1, 15, 0, 1] [[0x77]] :=
  ⟨takes_of (by decide +kernel) (by decide +kernel), takes_of (by decide +kernel) (by decide +kernel),
    takes_of (by decide +kernel) (by decide +kernel), takes_of (by decide +kernel) (by decide +kernel),
    takes_of (by decide +kernel) (by decide +kernel), takes_of (by decide +kernel) (by decide +kernel),
    takes_of (by decide +kernel) (by decide +kernel), takes_of (by decide +kernel) (by decide +kernel),
    takes_of (by decide +kernel) (by decide +kernel), takes_of (by decide +kernel) (by decide +kernel),
    takes_of (by decide +kernel) (by decide +kernel)⟩

theorem witness_unknownCode : (0x77 : Byte) ∉ commandCodes := by decide +kernel

/-! The laws hold of the part right after reset, and that state has a next one. -/

theorem reset_steps : ∃ t, step State.reset = .next t := ⟨_, rfl⟩

theorem witness_StepKeepsCreditLaw : (State.reset.creditLaw ∧ State.reset.capacityLaw) ∧ ∃ t, step State.reset = .next t := by
  refine ⟨?_, reset_steps⟩
  unfold State.creditLaw State.capacityLaw State.beforeStart
  decide +kernel

theorem witness_StepKeepsPowerLaws : (State.reset.levelLaw ∧ State.reset.budgetLaw) ∧ ∃ t, step State.reset = .next t := by
  refine ⟨?_, reset_steps⟩
  unfold State.levelLaw State.budgetLaw State.beforeStart
  decide +kernel

theorem witness_StepKeepsCacheLaw : (State.reset.cacheLaw) ∧ ∃ t, step State.reset = .next t := by
  refine ⟨?_, reset_steps⟩
  unfold State.cacheLaw
  decide +kernel

theorem witness_StepKeepsBufferLaws : (State.reset.egressLaw ∧ State.reset.depthLaw) ∧ ∃ t, step State.reset = .next t := by
  refine ⟨?_, reset_steps⟩
  unfold State.egressLaw State.depthLaw
  decide +kernel

theorem witness_StepKeepsPoolLaws : (State.reset.poolLaw ∧ State.reset.accountLaw) ∧ ∃ t, step State.reset = .next t := by
  refine ⟨?_, reset_steps⟩
  unfold State.poolLaw State.accountLaw State.beforeStart Lane.numbered
  decide +kernel

theorem witness_StepKeepsPlanLaw : (State.reset.planLaw) ∧ ∃ t, step State.reset = .next t := by
  refine ⟨?_, reset_steps⟩
  unfold State.planLaw State.beforeStart
  decide +kernel

theorem witness_StepKeepsAnchorLaw : (State.reset.anchorLaw) ∧ ∃ t, step State.reset = .next t := by
  refine ⟨?_, reset_steps⟩
  unfold State.anchorLaw State.beforeStart
  decide +kernel

theorem witness_StepKeepsLaneLaw : State.reset.laneLaw := by
  have h : ∀ u, State.reset.sched.staging.get u = Staging.empty := by decide +kernel
  intro u t l
  constructor
  · rintro (g | ⟨c, g, -⟩)
    · simp only [State.staged, h] at g
      exact absurd g (by simp [Staging.holdsLane, Staging.empty, Staging.recordBlocks])
    · rw [h] at g
      simp [Staging.empty] at g
  · intro g
    have e : ∀ t l, (State.reset.sched.lane t l).emptyMark = false := by decide +kernel
    rw [e] at g
    cases g

end Sys2Proof.Machine.Tests
end

section
/-! SUPPORT. What raised flags do to a tenant link without a frame waiting, up to the start of its transmitter (R187, R192, R193). -/

namespace Sys2Proof.Machine

/-! ## Raising flags on one link -/

@[simp] theorem Tli.raise_raised (x : Tli) (f : BitVec 8) : (x.raise f).raised = x.raised ||| f := by
  unfold Tli.raise Tli.makeNotice
  split <;> rfl

/-- Raised flags stand alone, or one NOTICE of the enabled set is made waiting (R193). -/
theorem Tli.raise_cases (x : Tli) (f : BitVec 8) :
    ((x.sent = true ∨ x.up = false ∨ (x.raised ||| f) &&& x.mask = 0) ∧ x.raise f = { x with raised := x.raised ||| f }) ∨
    ((x.sent = false ∧ x.up = true ∧ (x.raised ||| f) &&& x.mask ≠ 0) ∧
      x.raise f = { x with raised := x.raised ||| f, notice := some [0xC0, (x.raised ||| f) &&& x.mask], sent := true }) := by
  unfold Tli.raise Tli.makeNotice
  split
  · rename_i h
    exact .inr ⟨by simpa [Tli.enabled, and_assoc, and_left_comm] using h, rfl⟩
  · rename_i h
    refine .inl ⟨?_, rfl⟩
    simp only [Bool.and_eq_true, Bool.not_eq_true', bne_iff_ne, Tli.enabled] at h
    cases hs : x.sent <;> cases hu : x.up <;> simp_all

/-- A link after its flags `f` were raised and before its transmitter is started: only the flags have changed, or one NOTICE of flags of
the enabled set has been made waiting (R193). -/
inductive Tli.Notified (f : BitVec 8) (x : Tli) : Tli → Prop
  | quiet (h : x.sent = true ∨ x.up = false ∨ (x.raised ||| f) &&& x.mask = 0) : Notified f x { x with raised := x.raised ||| f }
  | noticed (g : BitVec 8) (armed : x.sent = false) (up : x.up = true) (names : g ≠ 0)
      (within : g &&& ~~~((x.raised ||| f) &&& x.mask) = 0) (whole : f &&& (f - 1) = 0 → g = (x.raised ||| f) &&& x.mask) :
      Notified f x { x with raised := x.raised ||| f, notice := some [0xC0, g], sent := true }

theorem Tli.notified_raise (x : Tli) (f : BitVec 8) : Tli.Notified f x (x.raise f) := by
  obtain ⟨h, e⟩ | ⟨⟨armed, up, enabled⟩, e⟩ := x.raise_cases f
  · rw [e]
    exact .quiet h
  · rw [e]
    exact .noticed _ armed up enabled (by simp) fun _ => rfl

/-- Two raises that name different flags notify as one: the second makes no second NOTICE (R193). -/
theorem Tli.notified_raise_raise (x : Tli) {f g : BitVec 8} (several : (f ||| g) &&& ((f ||| g) - 1) ≠ 0) :
    Tli.Notified (f ||| g) x ((x.raise f).raise g) := by
  obtain ⟨-, e⟩ | ⟨⟨armed, up, enabled⟩, e⟩ := x.raise_cases f
  · rw [e]
    obtain ⟨h, e'⟩ | ⟨⟨armed, up, enabled⟩, e'⟩ := Tli.raise_cases { x with raised := x.raised ||| f } g
    · rw [e', BitVec.or_assoc]
      exact .quiet (by simpa [BitVec.or_assoc] using h)
    · rw [e', BitVec.or_assoc]
      exact .noticed _ armed up (by simpa [BitVec.or_assoc] using enabled) (by simp) fun h => absurd h several
  · rw [e]
    obtain ⟨-, e'⟩ | ⟨⟨armed', -⟩, -⟩ := Tli.raise_cases
      { x with raised := x.raised ||| f, notice := some [0xC0, (x.raised ||| f) &&& x.mask], sent := true } g
    · rw [e', BitVec.or_assoc]
      refine .noticed _ armed up enabled ?_ fun h => absurd h several
      ext i hi
      simp
      grind
    · cases armed'

/-! ## Starting the transmitter -/

/-- A settled UP link whose transmitter is free has nothing waiting (R187). -/
theorem startTransmitter_settled {e : List EgressPacket} {x : Tli} (settled : startTransmitter e x = x) (up : x.up = true)
    (free : x.tx = none) : x.reply = none ∧ x.notice = none ∧ e = [] := by
  obtain ⟨_, _, reply, notice, _, _, _, _, _⟩ := x
  subst up free
  cases reply <;> cases notice <;> cases e <;> simp_all [startTransmitter]

/-- On a settled link the flags raised start no transmitter. -/
theorem startTransmitter_raised {e : List EgressPacket} {x : Tli} (settled : startTransmitter e x = x) (r : BitVec 8) :
    startTransmitter e { x with raised := r } = { x with raised := r } := by
  obtain ⟨up, tx, reply, notice, _, _, _, _, _⟩ := x
  cases up <;> cases tx <;> cases reply <;> cases notice <;> cases e <;> simp_all [startTransmitter]

/-- A busy transmitter starts nothing (R187). -/
theorem startTransmitter_busy {e : List EgressPacket} {x : Tli} (busy : x.tx ≠ none) : startTransmitter e x = x := by
  unfold startTransmitter
  rw [if_neg]
  simp [busy]

/-- A link that had nothing waiting for its transmitter meets the words of the statements once the transmitter has started (R187). -/
theorem Tli.Notified.raisedOnly {f : BitVec 8} {x y : Tli} {e : List EgressPacket} (h : Tli.Notified f x y) (flags : f ≠ 0)
    (settled : startTransmitter e x = x) : x.RaisedOnly f (startTransmitter e y) := by
  cases h with
  | quiet h =>
    rw [startTransmitter_raised settled]
    refine ⟨rfl, fun _ => ⟨rfl, rfl, rfl⟩, fun _ armed up enabled => ?_⟩
    rcases h with h | h | h
    · simp [armed] at h
    · simp [up] at h
    · exact absurd h enabled
  | noticed g armed up names within whole =>
    have still : ¬(f = 0 ∨ x.sent = true ∨ x.up = false ∨ (x.raised ||| f) &&& x.mask = 0) := by
      rintro (h | h | h | h)
      · exact flags h
      · simp [armed] at h
      · simp [up] at h
      · rw [h] at within
        exact names (BitVec.and_allOnes.symm.trans within)
    by_cases free : x.tx = none
    · obtain ⟨reply, -, -⟩ := startTransmitter_settled settled up free
      have start : startTransmitter e { x with raised := x.raised ||| f, notice := some [0xC0, g], sent := true } =
          { x with raised := x.raised ||| f, notice := none, sent := true, tx := some ⟨.notice, 0, [0xC0, g]⟩ } := by
        simp [startTransmitter, up, free, reply]
      rw [start]
      exact ⟨rfl, fun h => absurd h still, fun _ _ _ _ =>
        ⟨rfl, g, names, within, whole, fun _ => ⟨rfl, rfl⟩, fun busy => absurd free busy⟩⟩
    · have start : startTransmitter e { x with raised := x.raised ||| f, notice := some [0xC0, g], sent := true } =
          { x with raised := x.raised ||| f, notice := some [0xC0, g], sent := true } := startTransmitter_busy free
      rw [start]
      exact ⟨rfl, fun h => absurd h still, fun _ _ _ _ =>
        ⟨rfl, g, names, within, whole, fun h => absurd h free, fun _ => ⟨rfl, rfl⟩⟩⟩

end Sys2Proof.Machine
end

section
/-! SUPPORT. A change of link state (R38), and one that neither enters nor leaves LOCKED up to the end of the event. -/

namespace Sys2Proof.Machine

/-! ## Settling (R118) -/

theorem State.settleCheck_cases (s : State) :
    ((s.pbu.settling = true ∧ s.awakeCount ≤ s.effLimit) ∧
      s.settleCheck = ({ s with pbu := { s.pbu with settling := false } } : State).raiseAll flagPower) ∨
    (¬(s.pbu.settling = true ∧ s.awakeCount ≤ s.effLimit) ∧ s.settleCheck = s) := by
  unfold State.settleCheck
  split
  · rename_i h
    exact .inl ⟨by simpa using h, rfl⟩
  · rename_i h
    exact .inr ⟨by simpa using h, rfl⟩

/-- The settling test leaves the settling indication as the statements say (R118). -/
theorem State.settlesTo_settleCheck {s y : State} (settling : y.pbu.settling = s.pbu.settling) :
    s.SettlesTo y.settleCheck.startTransmitters := by
  unfold State.SettlesTo
  rw [← settling]
  obtain ⟨⟨_, calm⟩, e⟩ | ⟨unsettled, e⟩ := y.settleCheck_cases
  · rw [e]
    show false = (y.pbu.settling && decide (y.effLimit < y.awakeCount))
    simp [Nat.not_lt.2 calm]
  · rw [e]
    show y.pbu.settling = (y.pbu.settling && decide (y.effLimit < y.awakeCount))
    cases h : y.pbu.settling
    · rfl
    · simpa [h] using unsettled

/-- A change of link state raises CARRIER, and POWER where it ends the settling (R38, R118, R192). -/
theorem State.raised_settleCheck {s y : State} (settled : s.settled) (settling : y.pbu.settling = s.pbu.settling)
    (links : y.links = s.links.map (·.raise flagCarrier)) (egress : y.rxa.egress = s.rxa.egress) :
    s.Raised (flagCarrier ||| s.settledFlag y.settleCheck.startTransmitters) y.settleCheck.startTransmitters := by
  rw [State.settled_iff] at settled
  intro j
  obtain ⟨⟨on, _⟩, e⟩ | ⟨_, e⟩ := y.settleCheck_cases
  · rw [e]
    have flag : s.settledFlag (({ y with pbu := { y.pbu with settling := false } } : State).raiseAll flagPower).startTransmitters =
        flagPower := if_pos (by simp [State.startTransmitters, State.raiseAll, ← settling, on])
    rw [flag]
    have two := (Tli.notified_raise_raise (s.links.get j) (f := flagCarrier) (g := flagPower) (by decide)).raisedOnly (by decide)
      (settled j)
    simpa [State.startTransmitters, State.raiseAll, links, egress] using two
  · rw [e]
    have flag : s.settledFlag y.startTransmitters = 0 := if_neg (by simp [State.startTransmitters, settling])
    rw [flag, show flagCarrier ||| 0 = flagCarrier from rfl]
    have one := ((s.links.get j).notified_raise flagCarrier).raisedOnly (by decide) (settled j)
    simpa [State.startTransmitters, links, egress] using one

/-! ## The change of link state (R38) -/

/-- The part on a change of link state, before what a lock or a loss of lock hands on (R38). -/
def State.moved (s : State) (k : CarrierId) (c : Clc) : State :=
  { s with clc := s.clc.set k c, links := s.links.map (·.raise flagCarrier),
           scu := if c.link.silent then s.quiet k else s.scu,
           ftr := if c.link = .acquire then s.ftr.modify k Ftr.clear else s.ftr }

theorem State.moved_eq (s : State) (k : CarrierId) (f : Clc → Clc) :
    (((s.setClc k f).raiseAll flagCarrier).silence k (f (s.clc.get k)).link).freshTracker k (f (s.clc.get k)).link =
      s.moved k (f (s.clc.get k)) := by
  unfold State.silence State.freshTracker State.moved
  split <;> split <;> rfl

theorem State.changeLink_apart {s : State} {k : CarrierId} {f : Clc → Clc} (was : s.link k ≠ .locked)
    (apart : (f (s.clc.get k)).link ≠ .locked) : s.changeLink k f = (s.moved k (f (s.clc.get k))).settleCheck := by
  unfold State.changeLink State.handOn
  simp only [State.moved_eq, if_neg was, if_neg apart]

theorem State.changeLink_fromLocked {s : State} {k : CarrierId} (was : s.link k = .locked) (f : Clc → Clc) :
    s.changeLink k f = ((s.moved k (f (s.clc.get k))).afterUnlock k).settleCheck := by
  unfold State.changeLink State.handOn
  simp only [State.moved_eq, if_pos was]

theorem State.changeLink_toLocked {s : State} {k : CarrierId} {f : Clc → Clc} (was : s.link k ≠ .locked)
    (now : (f (s.clc.get k)).link = .locked) :
    s.changeLink k f = ((s.moved k (f (s.clc.get k))).afterLock k).settleCheck := by
  unfold State.changeLink State.handOn
  simp only [State.moved_eq, if_neg was, if_pos now]

/-- State `z` differs from `s` only in what an event may set before it changes a link state: controllers, the pool's state, levels,
outputs and expiries. -/
def State.Prepares (s z : State) : Prop :=
  ∃ clc cpm level out due, z = { s with clc := clc, cpm := cpm, pbu := { s.pbu with level := level }, out := out, due := due }

/-- Carrier `k` has taken the controller state `c` in an event prepared as `z`: the words of the statements with every field that they
leave open. -/
structure State.Turned (s z t : State) (k : CarrierId) (c : Clc) : Prop where
  becomes : s.LinkBecomes t k c
  scu : t.scu = if c.link.silent then s.quiet k else s.scu
  ftr : t.ftr = if c.link = .acquire then s.ftr.modify k Ftr.clear else s.ftr
  htu : t.htu = s.htu
  cpm : t.cpm = z.cpm
  level : t.pbu.level = z.pbu.level
  out : t.out = z.out
  due : t.due = z.due

/-- What a change of link state apart from LOCKED does, up to the end of its event (R38). -/
theorem State.turned_changeLink {s z : State} {k : CarrierId} {f : Clc → Clc} {c : Clc} (settled : s.settled) (h : s.Prepares z)
    (now : z.clc.set k (f (z.clc.get k)) = s.clc.set k c) (was : z.link k ≠ .locked) (apart : c.link ≠ .locked) :
    s.Turned z (z.changeLink k f).startTransmitters k c := by
  have taken : f (z.clc.get k) = c := by simpa using congrArg (Four.get · k) now
  rw [State.changeLink_apart was (taken ▸ apart), taken]
  rw [taken] at now
  obtain ⟨clc, cpm, level, out, due, e⟩ := h
  have flags := State.raised_settleCheck (y := z.moved k c) settled (by rw [e]; rfl) (by rw [e]; rfl) (by rw [e]; rfl)
  have settles := State.settlesTo_settleCheck (s := s) (y := z.moved k c) (by rw [e]; rfl)
  obtain ⟨b, l, check⟩ := (z.moved k c).settleCheck_only
  rw [check] at flags settles ⊢
  subst e
  exact ⟨⟨by simp [State.startTransmitters, State.moved, now], settles, flags⟩, rfl, rfl, rfl, rfl, rfl, rfl, rfl⟩

end Sys2Proof.Machine
end

section
/-! The timers and modem events that start, silence and power carriers (R26, R32–R37): acquisition starts (R110), and the statements
about the expiries of an acquisition and about MODEM_READY and ENERGY. -/

namespace Sys2Proof.Machine

/-! ## Events and expiries of a running part -/

theorem completes_event {c : Instr} {s : State} {f : State → State} {P : State → Prop} (arm : exec c s = event s f)
    (running : s.running = true) (h : P (f { s with out := [] }).startTransmitters) : Completes c s P :=
  ⟨_, arm.trans (event_running f running), h⟩

/-- A step of its own that takes expiry `e`, before the expiry acts (log 2). -/
def State.atExpiry (s : State) (e : Expiry) : State := { s with out := [], due := s.due.erase e }

theorem completes_expiry {c : Instr} {s : State} {e : Expiry} {P : State → Prop} (arm : exec c s = event s fun s => s.takeExpiry e)
    (running : s.running = true) (due : e ∈ s.due)
    (h : P (runExpiry (s.atExpiry e) e).startTransmitters) : Completes c s P := by
  refine completes_event arm running ?_
  rw [State.takeExpiry, if_pos (by simpa using due)]
  exact h

/-- An event that leaves every link and egress buffer as it was starts no transmitter. -/
theorem State.settled_same {s t : State} (settled : s.settled) (links : t.links = s.links) (rxa : t.rxa = s.rxa) :
    t.startTransmitters = t := State.settle_of settled links (by rw [rxa])

/-! ## Turns into silence and into ACQUIRE -/

theorem State.Turned.silenced {s z t : State} {k : CarrierId} {c : Clc} (h : s.Turned z t k c) (silent : c.link.silent = true)
    (level : z.pbu.level = s.pbu.level) : s.Silenced t k := by
  have apart : c.link ≠ .acquire := by
    intro e
    rw [e] at silent
    cases silent
  exact ⟨by simp [h.scu, silent], by simp [h.ftr, apart], h.htu, h.level.trans level⟩

theorem State.Turned.startedAt {s z t : State} {k : CarrierId} {c : Clc} {n : Nat} {before : List Output} (h : s.Turned z t k c)
    (acquire : c.link = .acquire) (cpm : z.cpm = s.cpm) (level : z.pbu.level = s.pbu.level.set k n)
    (out : z.out = before ++ [.modem k (.setLevel n), .modem k .unmute]) : s.StartedAt t k n c before :=
  ⟨h.becomes, by simp [h.scu, acquire, LinkState.silent], h.cpm.trans cpm, h.level.trans level,
    by rw [h.ftr, if_pos acquire]; rfl, h.out.trans out⟩

/-- The words about a change of link state leave the Hop Timing Unit open. -/
theorem State.LinkBecomes.withHtu {s t : State} {k : CarrierId} {c : Clc} (h : s.LinkBecomes t k c) (x : Htu) :
    s.LinkBecomes { t with htu := x } k c := by
  obtain ⟨e, settles, flags⟩ := h
  exact ⟨by rw [e], settles, flags⟩

/-! ## Acquisition starts (R110) -/

theorem State.startRule_startGrant (s : State) : s.startRule s.startGrant := by
  refine ⟨fun h => ?_, fun h g => ?_, fun h g => ?_⟩
  · exact if_pos h
  · exact (if_neg (Nat.not_le.2 h)).trans (if_pos g)
  · exact (if_neg (Nat.not_le.2 h)).trans (if_neg (Nat.not_le.2 g))

theorem State.budgetInUse_congr {s z : State} (link : ∀ j, z.link j = s.link j) (level : z.pbu.level = s.pbu.level) :
    z.budgetInUse = s.budgetInUse := by
  have cost : z.cost = s.cost := by
    funext j
    simp [State.cost, State.costs, link, level]
  rw [State.budgetInUse, cost, State.budgetInUse]

theorem State.startGrant_congr {s z : State} (link : ∀ j, z.link j = s.link j) (pbu : z.pbu = s.pbu)
    (settings : z.settings = s.settings) : z.startGrant = s.startGrant := by
  have inUse := State.budgetInUse_congr link (congrArg Pbu.level pbu)
  have figures : z.figures = s.figures := by rw [State.figures, settings, pbu, State.figures]
  have room : z.room = s.room := by rw [State.room, inUse, figures, State.room]
  have start : z.startLevel = s.startLevel := by rw [State.startLevel, figures, settings, State.startLevel]
  rw [State.startGrant, room, start, State.startGrant]

theorem State.tryStart_refused {s : State} {k : CarrierId} {mark : Bool} (h : s.startGrant = none) : s.tryStart k mark = none := by
  rw [State.tryStart, h]

/-- A granted start in an event that has so far set controllers, outputs and expiries only (R27, R109, R110). -/
theorem State.tryStart_granted {s z : State} {k : CarrierId} {mark : Bool} {n : Nat} {c : Clc} (settled : s.settled)
    (h : ∃ clc out due, z = { s with clc := clc, out := out, due := due }) (grant : z.startGrant = some n)
    (was : z.link k ≠ .locked) (now : z.clc.set k ((z.clc.get k).acquiring mark) = s.clc.set k (c.acquiring mark)) :
    ∃ t, z.tryStart k mark = some t ∧ s.StartedAt t.startTransmitters k n (c.acquiring mark) z.out ∧
      t.htu = s.htu ∧ t.due = z.due := by
  obtain ⟨clc, out, due, rfl⟩ := h
  rw [State.tryStart, grant]
  refine ⟨_, rfl, ?_⟩
  have turned := State.turned_changeLink (c := c.acquiring mark) (f := Clc.toAcquire mark) settled
    ⟨clc, s.cpm, s.pbu.level.set k n, out ++ [.modem k (.setLevel n)] ++ [.modem k .unmute], due, rfl⟩ now was nofun
  exact ⟨turned.startedAt rfl rfl rfl (by simp), turned.htu, turned.due⟩

/-! ## The end of the acquire count (R32, R33) -/

/-- The step at the end of carrier `k`'s acquire count with the carrier muted (R32). -/
def State.muted (s : State) (k : CarrierId) : State := { s with out := [.modem k .mute], due := s.due.erase (.acquire k) }

section
variable {s : State} {k : CarrierId} (settled : s.settled) (link : s.link k = .acquire) (count : 64 ≤ (s.clc.get k).acquireCount)
include settled link count

theorem State.acquireTimeout_unmarked (mark : (s.clc.get k).wakeMark = false) :
    s.Turned (s.muted k) ((s.atExpiry (.acquire k)).acquireTimeout k).startTransmitters k (s.clc.get k).toHoldoff := by
  have act : (s.atExpiry (.acquire k)).acquireTimeout k = (s.muted k).changeLink k Clc.toHoldoff := by
    rw [State.link] at link
    simp [State.acquireTimeout, State.atExpiry, State.muted, State.command, State.emit, acquireLimit, link, count, mark]
  rw [act]
  exact State.turned_changeLink settled ⟨_, _, _, _, _, rfl⟩ rfl (fun h => by cases link.symm.trans h) nofun

theorem State.acquireTimeout_marked (mark : (s.clc.get k).wakeMark = true) (few : (s.clc.get k).failedWakes < 2) :
    s.Turned (s.muted k) ((s.atExpiry (.acquire k)).acquireTimeout k).startTransmitters k
      { (s.clc.get k).toHoldoff with failedWakes := (s.clc.get k).failedWakes + 1 } := by
  have act : (s.atExpiry (.acquire k)).acquireTimeout k =
      (s.muted k).changeLink k fun c => { c.toHoldoff with failedWakes := c.failedWakes + 1 } := by
    rw [State.link] at link
    have early : ¬3 ≤ (s.clc.get k).failedWakes + 1 := by omega
    simp [State.acquireTimeout, State.atExpiry, State.muted, State.command, State.emit, acquireLimit, link, count, mark, early]
  rw [act]
  exact State.turned_changeLink settled ⟨_, _, _, _, _, rfl⟩ rfl (fun h => by cases link.symm.trans h) nofun

theorem State.acquireTimeout_third (mark : (s.clc.get k).wakeMark = true) (third : 2 ≤ (s.clc.get k).failedWakes) :
    s.Turned ((s.muted k).setPenalty k) ((s.atExpiry (.acquire k)).acquireTimeout k).startTransmitters k (s.clc.get k).giveUp := by
  have act : (s.atExpiry (.acquire k)).acquireTimeout k = ((s.muted k).setPenalty k).changeLink k Clc.giveUp := by
    rw [State.link] at link
    have third' : 3 ≤ (s.clc.get k).failedWakes + 1 := by omega
    simp [State.acquireTimeout, State.atExpiry, State.muted, State.command, State.emit, acquireLimit, link, count, mark, third']
  rw [act]
  exact State.turned_changeLink settled ⟨_, _, _, _, _, rfl⟩ rfl (fun h => by cases link.symm.trans h) nofun

end

/-! ## The end of HOLDOFF (R32, R110) -/

theorem State.holdoffEnd_act {s : State} {k : CarrierId} (link : s.link k = .holdoff)
    (count : holdoffLimit ≤ (s.clc.get k).holdoffCount) :
    s.holdoffEnd k = (s.tryStart k false).getD (s.setClc k fun c => { c with holdoffCount := 0 }) := by
  rw [State.holdoffEnd, if_pos (by simp [link, count])]
  cases s.tryStart k false <;> rfl

/-! ## Hop recovery (R37) -/

/-- May hop recovery start the carrier: PARKED, without a wake penalty (R37)? -/
def State.recoverable (s : State) (k : CarrierId) : Bool := s.link k == .parked && s.cpm.penalty.get k == 0

theorem State.recoverable_iff {s : State} {k : CarrierId} : s.recoverable k = true ↔ s.link k = .parked ∧ s.cpm.penalty.get k = 0 := by
  simp [State.recoverable]

/-- The first of the four numbers with a property is the one with none before it. -/
theorem find_ids_eq_some {p : Fin 4 → Bool} {k : Fin 4} (h : p k = true) (first : ∀ j, j < k → p j = false) : ids.find? p = some k := by
  fin_cases k <;> simp_all [ids]

theorem State.recoveryAttempt_act {s : State} (down : s.htu.anchor = none) (count : recoveryLimit ≤ s.htu.recovery)
    (idle : ∀ k, s.link k ≠ .acquire) (room : s.awakeCount < s.localLimit) :
    s.recoveryAttempt = match ids.find? s.recoverable with
      | some k => match s.tryStart k false with
        | some t => { t with htu := { t.htu with recovery := 0 } }
        | none => s
      | none => s := by
  have up : s.hopUp = false := by simp [State.hopUp, down]
  have all : (ids.all fun k => s.link k != .acquire) = true := by simp [idle]
  rw [State.recoveryAttempt, if_pos (by simp [up, count, all, room])]
  rfl

/-! ## The statement -/

/-- Settles O14: the acquire count by wake mark and failed wakes, HOLDOFF and hop recovery by the grant of a start. -/
theorem acquisitionExpiriesAct : Obligations.AcquisitionExpiriesAct := by
  refine ⟨?_, ?_, ?_⟩
  · rintro k s ⟨running, settled⟩ due link count
    refine completes_expiry rfl running due ?_
    cases mark : (s.clc.get k).wakeMark with
    | false =>
      have turned := s.acquireTimeout_unmarked settled link count mark
      exact ⟨turned.silenced rfl rfl, turned.due, turned.out, fun _ => ⟨turned.becomes, turned.cpm⟩,
        fun h => absurd h (by simp [mark]), fun h => absurd h (by simp [mark])⟩
    | true =>
      by_cases few : (s.clc.get k).failedWakes < 2
      · have turned := s.acquireTimeout_marked settled link count mark few
        exact ⟨turned.silenced rfl rfl, turned.due, turned.out, fun h => absurd h (by simp [mark]),
          fun _ _ => ⟨turned.becomes, turned.cpm⟩, fun _ third => absurd few (Nat.not_lt.2 third)⟩
      · have turned := s.acquireTimeout_third settled link count mark (Nat.not_lt.1 few)
        exact ⟨turned.silenced rfl rfl, turned.due, turned.out, fun h => absurd h (by simp [mark]),
          fun _ h => absurd h few, fun _ _ => ⟨turned.becomes, turned.cpm⟩⟩
  · rintro k s ⟨running, settled⟩ due link count
    refine completes_expiry rfl running due ⟨s.startGrant, s.startRule_startGrant, ?_⟩
    rw [runExpiry, State.holdoffEnd_act (by exact link) (by exact count)]
    cases grant : s.startGrant with
    | none =>
      rw [State.tryStart_refused (by exact grant), Option.getD_none, State.settled_same settled]
      · exact ⟨rfl, rfl, nofun, fun _ => rfl⟩
      all_goals rfl
    | some n =>
      obtain ⟨t, e, started, htu, due'⟩ := State.tryStart_granted (z := s.atExpiry (.holdoff k)) (k := k) (mark := false)
        (c := s.clc.get k) settled ⟨_, _, _, rfl⟩ grant (fun h => by cases link.symm.trans h) rfl
      rw [e, Option.getD_some]
      refine ⟨due', htu, ?_, nofun⟩
      rintro _ ⟨⟩
      exact started
  · rintro s ⟨running, settled⟩ due down count idle room
    refine completes_expiry rfl running due ?_
    refine ⟨?_, s.startGrant, s.startRule_startGrant, ?_, ?_⟩
    · exact (State.recoveryAttempt_held _).due
    · intro k parked free first l grant
      have found : ids.find? (s.atExpiry .recovery).recoverable = some k :=
        find_ids_eq_some (State.recoverable_iff.2 ⟨parked, free⟩) fun j h => by
          rw [Bool.eq_false_iff]
          exact fun g => first j h (State.recoverable_iff.1 g)
      obtain ⟨t, e, started, htu, -⟩ := State.tryStart_granted (z := s.atExpiry .recovery) (k := k) (mark := false)
        (c := s.clc.get k) settled ⟨_, _, _, rfl⟩ grant (fun h => by cases parked.symm.trans h) rfl
      rw [runExpiry, State.recoveryAttempt_act (by exact down) (by exact count.ge) (by exact idle) (by exact room), found]
      simp only [e]
      exact ⟨⟨started.1.withHtu _, started.2⟩, by simp [State.startTransmitters, htu]⟩
    · intro stays
      rw [runExpiry, State.recoveryAttempt_act (by exact down) (by exact count.ge) (by exact idle) (by exact room)]
      cases found : ids.find? (s.atExpiry .recovery).recoverable with
      | none => exact State.settled_same settled rfl rfl
      | some k =>
        have refused : (s.atExpiry .recovery).startGrant = none :=
          stays.resolve_right fun h => h k (State.recoverable_iff.1 (List.find?_some found))
        simp only [State.tryStart_refused refused]
        exact State.settled_same settled rfl rfl

end Sys2Proof.Machine
end

section
/-! MODEM_READY and ENERGY (R26, R34). -/

namespace Sys2Proof

@[simp] theorem Four.set_set {α : Type} (f : Four α) (i : Fin 4) (x y : α) : (f.set i x).set i y = f.set i y := by
  fin_cases i <;> rfl

end Sys2Proof

namespace Sys2Proof.Machine

/-! ## MODEM_READY (R26) -/

/-- The step of MODEM_READY once SET_COMBINER is sent (R26). -/
def State.combined (s : State) (k : CarrierId) : State := { s with out := [.modem k (.setCombiner (s.ftr.get k).mode)] }

/-- The same with the start allowance taken (R25, R26). -/
def State.allowed (s : State) (k : CarrierId) : State := (s.combined k).setClc k fun c => { c with allowance := false }

section
variable {s : State} {k : CarrierId} (link : s.link k = .waking)
include link

theorem State.modemReady_parks (h : (s.clc.get k).allowance = false ∨ (s.clc.get k).faultLatch = true) :
    ({ s with out := [] } : State).modemReady k = (s.combined k).changeLink k Clc.parkReady := by
  rw [State.link] at link
  have no : ((s.clc.get k).allowance && !(s.clc.get k).faultLatch) = false := by rcases h with h | h <;> simp [h]
  simp only [State.modemReady, link, no]
  rfl

theorem State.modemReady_starts (allowance : (s.clc.get k).allowance = true) (latch : (s.clc.get k).faultLatch = false) :
    ({ s with out := [] } : State).modemReady k =
      ((s.allowed k).tryStart k false).getD ((s.combined k).changeLink k Clc.parkReady) := by
  rw [State.link] at link
  simp only [State.modemReady, link, allowance, latch]
  show (match (s.allowed k).tryStart k false with
    | some t => t
    | none => (s.combined k).changeLink k Clc.parkReady) = _
  cases (s.allowed k).tryStart k false <;> rfl

/-- A carrier that is not started is PARKED (R26, R33). -/
theorem State.turned_parkReady (settled : s.settled) :
    s.Turned (s.combined k) ((s.combined k).changeLink k Clc.parkReady).startTransmitters k (s.clc.get k).parkReady :=
  State.turned_changeLink settled ⟨_, _, _, _, _, rfl⟩ rfl (fun h => by cases link.symm.trans h) nofun

end

theorem State.allowed_startGrant (s : State) (k : CarrierId) : (s.allowed k).startGrant = s.startGrant := by
  refine State.startGrant_congr (fun j => ?_) rfl rfl
  simp only [State.link, State.allowed, State.setClc_clc, Four.get_modify]
  split <;> rfl

/-! ## ENERGY (R34) -/

theorem Entry.isWake_iff {k : CarrierId} {e : Entry} : e.isWake (some k) = (e.change == .link (.wake k)) := by
  rw [Bool.eq_iff_iff]
  unfold Entry.isWake
  split
  · rename_i d h
    rw [h]
    simpa using eq_comm
  · rename_i h
    simpa using h k

/-- ENERGY starts a PARKED carrier that a WAKE entry names, with its wake mark (R34). -/
theorem State.energy_woken {s : State} {k : CarrierId} (link : s.link k = .parked)
    (woken : (s.plc.plan.any fun e => e.change == .link (.wake k)) = true) : s.energy k = s.startOrStay k true := by
  simp only [← Entry.isWake_iff] at woken
  rw [State.energy, if_pos link, if_pos woken]

/-- ENERGY starts a PARKED carrier while the hop is down and has room (R34). -/
theorem State.energy_down {s : State} {k : CarrierId} (link : s.link k = .parked)
    (woken : (s.plc.plan.any fun e => e.change == .link (.wake k)) = false) (down : s.htu.anchor = none)
    (room : s.awakeCount < s.localLimit) : s.energy k = s.startOrStay k false := by
  simp only [← Entry.isWake_iff] at woken
  rw [State.energy, if_pos link, if_neg (by simp [woken]), if_pos (by simp [State.hopUp, down, room])]

/-- Any other ENERGY is without effect (R34). -/
theorem State.energy_idle {s : State} {k : CarrierId}
    (h : s.link k ≠ .parked ∨ ((s.plc.plan.any fun e => e.change == .link (.wake k)) = false ∧
      (s.htu.anchor ≠ none ∨ s.localLimit ≤ s.awakeCount))) : s.energy k = s := by
  by_cases link : s.link k = .parked
  · obtain ⟨woken, full⟩ := h.resolve_left (not_not.2 link)
    simp only [← Entry.isWake_iff] at woken
    have no : ¬((!s.hopUp && s.awakeCount < s.localLimit) = true) := by
      rcases full with up | full
      · simp [State.hopUp, Option.isSome_iff_ne_none.2 up]
      · simp [Nat.not_lt.2 full]
    rw [State.energy, if_pos link, if_neg (by simp [woken]), if_neg no]
  · exact if_neg link

/-- A start of a carrier that stays where it is when refused, as an event of its own (R34, R110). -/
theorem State.startOrStay_event {s : State} {k : CarrierId} {mark : Bool} (settled : s.settled) (was : s.link k ≠ .locked) :
    let t := (({ s with out := [] } : State).startOrStay k mark).startTransmitters
    (∀ l, s.startGrant = some l → s.StartedAt t k l ((s.clc.get k).acquiring mark) [] ∧ t.htu = s.htu ∧ t.due = s.due) ∧
      (s.startGrant = none → t = { s with out := [] }) := by
  constructor
  · intro l grant
    obtain ⟨t, e, started, htu, due⟩ := State.tryStart_granted (z := { s with out := [] }) (k := k) (mark := mark)
      (c := s.clc.get k) settled ⟨_, _, _, rfl⟩ grant was rfl
    rw [State.startOrStay, e]
    exact ⟨started, htu, due⟩
  · intro refused
    rw [State.startOrStay, State.tryStart_refused (by exact refused)]
    exact State.settled_same settled rfl rfl

/-! ## The statement -/

/-- Settles O21: MODEM_READY by allowance, latch and grant; ENERGY by what it finds. -/
theorem modemEventsStartCarriers : Obligations.ModemEventsStartCarriers := by
  refine ⟨?_, ?_⟩
  · rintro k s ⟨running, settled⟩ link
    refine completes_event (f := fun s => s.modemReady k) rfl running ⟨(State.modemReady_held _ k).due, fun h => ?_, fun allowance latch => ?_⟩
    · rw [State.modemReady_parks link h]
      have turned := State.turned_parkReady link settled
      exact ⟨turned.becomes, turned.silenced rfl rfl, turned.cpm, turned.out⟩
    · refine ⟨s.startGrant, s.startRule_startGrant, ?_⟩
      rw [State.modemReady_starts link allowance latch]
      cases grant : s.startGrant with
      | none =>
        rw [State.tryStart_refused ((s.allowed_startGrant k).trans grant), Option.getD_none]
        have turned := State.turned_parkReady link settled
        exact ⟨nofun, fun _ => ⟨turned.becomes, turned.silenced rfl rfl, turned.cpm, turned.out⟩⟩
      | some n =>
        have was : (s.allowed k).link k ≠ .locked := by
          rw [State.link] at link
          simp [State.link, State.allowed, State.combined, link]
        obtain ⟨t, e, started, htu, -⟩ := State.tryStart_granted (z := s.allowed k) (mark := false)
          (c := { s.clc.get k with allowance := false }) settled ⟨_, _, _, rfl⟩ ((s.allowed_startGrant k).trans grant) was
          (by simp [State.allowed, State.combined, Four.modify])
        rw [e, Option.getD_some]
        refine ⟨?_, nofun⟩
        rintro _ ⟨⟩
        exact ⟨started, htu⟩
  · rintro k s ⟨running, settled⟩ woken
    refine completes_event (f := fun s => s.energy k) rfl running
      ⟨s.startGrant, s.startRule_startGrant, fun link h => ?_, fun link h down room => ?_, fun h => ?_⟩
    · rw [State.energy_woken (by exact link) (by exact h)]
      exact State.startOrStay_event settled (fun h => by cases link.symm.trans h)
    · rw [State.energy_down (by exact link) (by exact h) (by exact down) (by exact room)]
      exact State.startOrStay_event settled (fun h => by cases link.symm.trans h)
    · rw [State.energy_idle (by exact h)]
      exact State.settled_same settled rfl rfl

end Sys2Proof.Machine
end

section
/-! SUPPORT. What flags, staging and lanes keep while a unit leaves service (R140, R143–R154, R192): notices are only raised, and a unit
out of service gets no block and no lane. -/

namespace Sys2Proof.Machine

/-! ## Notices are only raised (R192) -/

/-- Between `s` and `t` no flag is lowered, and a change of C raises CAPACITY (R140, R192). -/
structure State.Notifies (s t : State) : Prop where
  raised : ∀ j, ∃ g, (t.links.get j).raised = (s.links.get j).raised ||| g
  capacity : t.sched.capacity ≠ s.sched.capacity → ∀ j, (t.links.get j).raised &&& flagCapacity = flagCapacity

theorem and_or_of_and {r g f : BitVec 8} (h : r &&& f = f) : (r ||| g) &&& f = f := by
  have e : (r ||| g) &&& f = (r &&& f) ||| (g &&& f) := by
    ext i hi
    simp
    grind
  rw [e, h]
  ext i hi
  simp

theorem State.Notifies.keeps {s t : State} (h : s.Notifies t) {j : TenantId} {f : BitVec 8}
    (set : (s.links.get j).raised &&& f = f) : (t.links.get j).raised &&& f = f := by
  obtain ⟨g, e⟩ := h.raised j
  rw [e]
  exact and_or_of_and set

theorem State.Notifies.same {s t : State} (links : t.links = s.links) (capacity : t.sched.capacity = s.sched.capacity) :
    s.Notifies t :=
  ⟨fun j => ⟨0, by rw [links]; simp⟩, fun h => absurd capacity h⟩

theorem State.Notifies.after {s s' t : State} (h : s'.Notifies t) (links : s'.links = s.links)
    (capacity : s'.sched.capacity = s.sched.capacity) : s.Notifies t :=
  ⟨links ▸ h.raised, capacity ▸ h.capacity⟩

theorem State.Notifies.refl (s : State) : s.Notifies s := .same rfl rfl

theorem State.Notifies.trans {s t u : State} (h : s.Notifies t) (k : t.Notifies u) : s.Notifies u := by
  constructor
  · intro j
    obtain ⟨f, e⟩ := h.raised j
    obtain ⟨g, e'⟩ := k.raised j
    exact ⟨f ||| g, by rw [e', e, BitVec.or_assoc]⟩
  · intro changed j
    by_cases before : t.sched.capacity = s.sched.capacity
    · exact k.capacity (before ▸ changed) j
    · exact k.keeps (h.capacity before j)

theorem State.raiseAll_notifies (s : State) (f : BitVec 8) : s.Notifies (s.raiseAll f) :=
  ⟨fun j => ⟨f, by simp [State.raiseAll]⟩, fun h => absurd rfl h⟩

/-- Behind a raise the flags stand (R192). -/
theorem State.raiseAll_raised (s : State) (f : BitVec 8) (j : TenantId) : ((s.raiseAll f).links.get j).raised &&& f = f := by
  have e : ((s.raiseAll f).links.get j).raised = f ||| (s.links.get j).raised := by
    simp [State.raiseAll, BitVec.or_comm]
  rw [e]
  exact and_or_of_and BitVec.and_self

theorem State.count_notifies (s : State) (t : TenantId) (n : CounterName) : s.Notifies (s.count t n) := by
  refine ⟨fun j => ?_, fun h => absurd rfl h⟩
  have one : ∃ g, ((s.links.get j).count n).raised = (s.links.get j).raised ||| g := by
    unfold Tli.count
    dsimp only
    split
    · exact ⟨flagDiscard, by simp⟩
    · exact ⟨0, by simp⟩
  simp only [State.count, Four.get_modify]
  split
  · exact one
  · exact ⟨0, by simp⟩

theorem State.countAll_notifies (s : State) (cs : List (TenantId × CounterName)) : s.Notifies (s.countAll cs) :=
  foldl_covered _ .refl .trans _ (fun s _ => s.count_notifies _ _) cs s

theorem State.formCapacity_notifies (s : State) : s.Notifies s.formCapacity := by
  unfold State.formCapacity
  dsimp only
  split
  · exact .refl s
  · exact ⟨fun j => ⟨flagCapacity, by simp [State.raiseAll]⟩, fun _ j => State.raiseAll_raised _ _ j⟩

theorem State.planFlag_notifies (s : State) (es : List Entry) : s.Notifies (s.planFlag es) := by
  unfold State.planFlag
  split
  · exact s.raiseAll_notifies _
  · exact .refl s

theorem State.eraseEntries_notifies (s : State) (p : Entry → Bool) : s.Notifies (s.eraseEntries p) :=
  (State.planFlag_notifies _ _).after rfl rfl

theorem State.afterRemoval_notifies (s : State) (e : Entry) : s.Notifies (s.afterRemoval e) := by
  unfold State.afterRemoval
  split
  · exact .same rfl rfl
  · exact .refl s
  · split
    · split
      · exact .same rfl rfl
      · exact .refl s
    · exact .refl s

theorem State.removeEntries_notifies (s : State) (p : Entry → Bool) : s.Notifies (s.removeEntries p) :=
  ((s.eraseEntries_notifies p).trans (foldl_covered _ .refl .trans _ State.afterRemoval_notifies _ _)).trans
    (State.formCapacity_notifies _)

theorem State.settleCheck_notifies (s : State) : s.Notifies s.settleCheck := by
  obtain ⟨-, e⟩ | ⟨-, e⟩ := s.settleCheck_cases
  · rw [e]
    exact (State.raiseAll_notifies _ _).after rfl rfl
  · rw [e]
    exact .refl s

@[simp] theorem startTransmitter_raised_eq (e : List EgressPacket) (x : Tli) : (startTransmitter e x).raised = x.raised := by
  unfold startTransmitter
  split
  · split <;> rfl
  · rfl

theorem State.startTransmitters_notifies (s : State) : s.Notifies s.startTransmitters :=
  ⟨fun j => ⟨0, by simp [State.startTransmitters]⟩, fun h => absurd rfl h⟩

theorem State.takeRxBlock_notifies (u : UnitId) (s : State) (b : RxBlock) : s.Notifies (s.takeRxBlock u b) := by
  unfold State.takeRxBlock
  split
  · exact .refl s
  · exact .refl s
  · exact (State.countAll_notifies _ _).after rfl rfl

/-! ## C formed afresh (R140, R143) -/

/-- The scheduler with C formed as `n` (R140, R143). -/
def Sched.formed (x : Sched) (n : Nat) : Sched :=
  { x with capacity := n, credit := if n < x.capacity then x.credit.map (rescale x.capacity n) else x.credit }

theorem State.formCapacity_sched (s : State) : s.formCapacity.sched = s.sched.formed s.capacityNow := by
  unfold State.formCapacity Sched.formed
  dsimp only
  split
  · rename_i h
    simp [h]
  · rfl

theorem Sched.formed_formed (x : Sched) (n : Nat) : (x.formed n).formed n = x.formed n := by simp [Sched.formed]

theorem Sched.formed_same (x : Sched) : x.formed x.capacity = x := by simp [Sched.formed]

/-- The rescaling of R143 in the words of the statements. -/
theorem rescale_eq (old new : Nat) : rescale old new = fun c => c * new / old := by
  funext c
  unfold rescale
  split <;> simp_all

theorem State.members_congr {s t : State} (settings : t.settings = s.settings) (u : UnitId) : t.members u = s.members u := by
  simp only [State.members, State.mirrorOf, State.role, settings]

theorem State.unitJoined_congr {s t : State} (settings : t.settings = s.settings) (joined : ∀ j, t.isJoined j = s.isJoined j)
    (u : UnitId) : t.unitJoined u = s.unitJoined u := by
  rw [State.unitJoined, State.members_congr settings, funext joined, State.unitJoined]

theorem State.capacityNow_congr {s t : State} (settings : t.settings = s.settings) (joined : ∀ j, t.isJoined j = s.isJoined j)
    (acting : t.cpm.acting = s.cpm.acting) (draining : t.plc.draining = s.plc.draining) (profile : t.plc.txProfile = s.plc.txProfile) :
    t.capacityNow = s.capacityNow := by
  apply congrArg Four.sum
  apply Four.ext_get
  intro u
  simp [State.inService, State.actsTraffic, State.isDraining, State.unitBlocks, State.unitJoined_congr settings joined, settings,
    acting, draining, profile]

/-! ## What the scheduler leaves of a unit out of service -/

/-- Between `x` and `y` unit `u` gets no staged block, no pair frame record and no lane. -/
structure Sched.Leaves (u : UnitId) (x y : Sched) : Prop where
  held : (x.staging.get u).held = 0 → (y.staging.get u).held = 0
  record : (x.staging.get u).record = none → (y.staging.get u).record = none
  lanes : ∀ t l, (x.lane t l).boundTo u = false → (y.lane t l).boundTo u = false

/-- The same, and C is not formed. -/
structure Sched.Spares (u : UnitId) (x y : Sched) : Prop extends Sched.Leaves u x y where
  capacity : y.capacity = x.capacity

section
variable {u : UnitId} {x y z : Sched}

theorem Sched.Leaves.same (staging : y.staging.get u = x.staging.get u) (lanes : y.lanes = x.lanes) : x.Leaves u y :=
  ⟨fun h => by rwa [staging], fun h => by rwa [staging], fun t l h => by simpa [Sched.lane, lanes] using h⟩

theorem Sched.Leaves.refl (u : UnitId) (x : Sched) : x.Leaves u x := .same rfl rfl

theorem Sched.Leaves.trans (h : x.Leaves u y) (k : y.Leaves u z) : x.Leaves u z :=
  ⟨fun e => k.held (h.held e), fun e => k.record (h.record e), fun t l e => k.lanes t l (h.lanes t l e)⟩

theorem Sched.Spares.same (staging : y.staging.get u = x.staging.get u) (lanes : y.lanes = x.lanes)
    (capacity : y.capacity = x.capacity) : x.Spares u y := ⟨.same staging lanes, capacity⟩

theorem Sched.Spares.refl (u : UnitId) (x : Sched) : x.Spares u x := .same rfl rfl rfl

theorem Sched.Spares.trans (h : x.Spares u y) (k : y.Spares u z) : x.Spares u z :=
  ⟨h.toLeaves.trans k.toLeaves, k.capacity.trans h.capacity⟩

end

/-- A left fold whose every step spares a unit spares it. -/
theorem Sched.foldl_spares {α : Type} {u : UnitId} {f : Sched → α → Sched} {qs : List α} (h : ∀ x : Sched, ∀ q ∈ qs, x.Spares u (f x q))
    (x : Sched) : x.Spares u (qs.foldl f x) := by
  induction qs generalizing x with
  | nil => exact .refl u x
  | cons q qs ih => exact (h x q (by simp)).trans (ih (fun x p hp => h x p (by simp [hp])) _)

theorem Sched.formed_leaves (u : UnitId) (x : Sched) (n : Nat) : x.Leaves u (x.formed n) := .same rfl rfl

/-! ### Lanes -/

theorem Sched.lane_setLane (x : Sched) (t t' : TenantId) (l l' : LaneIx) (f : Lane → Lane) :
    (x.setLane t l f).lane t' l' = if t' = t ∧ l' = l then f (x.lane t l) else x.lane t' l' := by
  unfold Sched.setLane Sched.lane
  dsimp only
  rw [Four.get_modify]
  by_cases ht : t' = t
  · subst ht
    rw [if_pos rfl, Vector.getElem_set]
    by_cases hl : l' = l
    · simp [hl]
    · rw [if_neg fun h => hl (Fin.ext h.symm), if_neg fun h => hl h.2]
  · rw [if_neg ht, if_neg fun h => ht h.1]

theorem Sched.setLane_spares (u : UnitId) (x : Sched) (t : TenantId) (l : LaneIx) {f : Lane → Lane}
    (h : ∀ z : Lane, z.boundTo u = false → (f z).boundTo u = false) : x.Spares u (x.setLane t l f) := by
  refine ⟨⟨fun e => e, fun e => e, fun t' l' e => ?_⟩, rfl⟩
  rw [Sched.lane_setLane]
  split
  · rename_i same
    rw [same.1, same.2] at e
    exact h _ e
  · exact e

/-- A change of a lane that keeps its binding. -/
theorem Sched.setLane_keeps (u : UnitId) (x : Sched) (t : TenantId) (l : LaneIx) {f : Lane → Lane}
    (h : ∀ z : Lane, (f z).bound = z.bound) : x.Spares u (x.setLane t l f) :=
  x.setLane_spares u t l fun z e => by simpa [Lane.boundTo, h] using e

theorem Staging.held_dropConts (g : Staging) (p : Continuation → Bool) : (g.dropConts p).held = g.held := rfl

theorem Sched.dropConts_spares (u : UnitId) (x : Sched) (p : Continuation → Bool) : x.Spares u (x.dropConts p) := by
  refine ⟨⟨fun e => ?_, fun e => ?_, fun _ _ e => e⟩, rfl⟩
  · simpa [Sched.dropConts, Staging.held_dropConts] using e
  · simpa [Sched.dropConts, Staging.dropConts] using e

theorem Sched.freeUnits_spares (u : UnitId) (x : Sched) (t : TenantId) (p : Packet) : x.Spares u (x.freeUnits t p) := by
  unfold Sched.freeUnits
  split <;> exact .same rfl rfl rfl

theorem Sched.removePacket_spares (u : UnitId) (x : Sched) (t : TenantId) (l : LaneIx) (p : Packet) :
    x.Spares u (x.removePacket t l p) := by
  refine ((x.freeUnits_spares u t p).trans ?_).trans (Sched.dropConts_spares u _ _)
  exact Sched.setLane_keeps u _ t l fun _ => rfl

theorem Sched.breakAt_spares (u : UnitId) (x : Sched) (t : TenantId) (l : LaneIx) (q : Seq) : x.Spares u (x.breakAt t l q) :=
  x.setLane_keeps u t l fun _ => rfl

theorem Sched.unbind_spares (u : UnitId) (x : Sched) (t : TenantId) (l : LaneIx) : x.Spares u (x.unbind t l) :=
  (x.setLane_spares u t l fun _ _ => rfl).trans (Sched.dropConts_spares u _ _)

theorem Sched.closeRecord_spares (u v : UnitId) (x : Sched) : x.Spares u (x.closeRecord v) := by
  refine ⟨⟨fun e => ?_, fun e => ?_, fun _ _ e => e⟩, rfl⟩
  · simp only [Sched.closeRecord, Four.get_modify]
    split
    · simp only [Staging.held, Staging.recordBlocks] at e ⊢
      simp only [List.length_nil]
      omega
    · exact e
  · simp only [Sched.closeRecord, Four.get_modify]
    split
    · rfl
    · exact e

theorem Sched.advanceLane_spares (u : UnitId) (x : Sched) (t : TenantId) (c : LaneClass) (l : LaneIx) :
    x.Spares u (x.advanceLane t c l) := .same rfl rfl rfl

/-! ### Refill (R145–R148) -/

/-- A staged packet changes the unit's staging, its lane and the credit; an unbound lane may be bound to that unit, and a bound one keeps
its binding (R146, R149, R166). -/
theorem Sched.stagePacket_shape (x : Sched) (v : UnitId) (t : TenantId) (l : LaneIx) (p : Packet) (c : Phase) :
    ∃ g f n, (x.stagePacket v t l p c).1 = (({ x with staging := x.staging.set v g } : Sched).setLane t l f).charge t c n ∧
      ∀ z : Lane, (f z).bound = z.bound ∨ (f z).bound = some ⟨v, z.written⟩ := by
  refine ⟨_, _, _, rfl, fun z => ?_⟩
  dsimp only
  split
  · cases z.bound
    · exact .inr rfl
    · exact .inl rfl
  · exact .inl rfl

section
variable {u v : UnitId} (other : v ≠ u)
include other

/-- Staging on another unit binds no lane to `u` (R149, R166). -/
theorem Sched.stagePacket_spares (x : Sched) (t : TenantId) (l : LaneIx) (p : Packet) (c : Phase) :
    x.Spares u (x.stagePacket v t l p c).1 := by
  obtain ⟨g, f, n, e, bound⟩ := x.stagePacket_shape v t l p c
  have staged : x.Spares u { x with staging := x.staging.set v g } := .same (Four.get_set_of_ne _ _ other.symm) rfl rfl
  have charged : ∀ y : Sched, y.Spares u (y.charge t c n) := fun y => by
    cases c <;> exact .same rfl rfl rfl
  rw [e]
  refine (staged.trans (Sched.setLane_spares u _ t l fun z free => ?_)).trans (charged _)
  unfold Lane.boundTo at free ⊢
  rcases bound z with b | b
  · rwa [b]
  · simpa [b] using other

theorem Sched.serveCont_spares (x : Sched) (c : LaneClass) : x.Spares u (x.serveCont v c) := by
  unfold Sched.serveCont
  split
  · split
    · exact Sched.stagePacket_spares other _ _ _ _ _
    · exact .refl u x
  · exact .refl u x

theorem Sched.visit_spares (env : SchedEnv) (t : TenantId) (fuel : Nat) (cs : List LaneClass) (n : Nat) (x : Sched) :
    x.Spares u (Sched.visit env v t fuel cs n x) := by
  induction fuel generalizing cs n x with
  | zero =>
    unfold Sched.visit
    exact .refl u x
  | succ fuel ih =>
    cases cs with
    | nil =>
      unfold Sched.visit
      exact .refl u x
    | cons c cs =>
      unfold Sched.visit
      split
      · exact ih cs n x
      · split
        · dsimp only
          exact .trans (Sched.stagePacket_spares other x _ _ _ _) (.trans (Sched.advanceLane_spares u _ _ _ _) (ih _ _ _))
        · exact .refl u x

theorem Sched.pick_spares {env : SchedEnv} {x y : Sched} (h : x.pick env v = some y) : x.Spares u y := by
  unfold Sched.pick at h
  split at h
  · rename_i y' h'
    cases h
    unfold Sched.pickAssured at h'
    split at h'
    · cases h'
      exact (Sched.stagePacket_spares other _ _ _ _ _).trans (.same rfl rfl rfl)
    · cases h'
  · split at h
    · rename_i y' h'
      cases h
      unfold Sched.pickElastic at h'
      split at h'
      · cases h'
        exact (Sched.stagePacket_spares other _ _ _ _ _).trans (.same rfl rfl rfl)
      · cases h'
    · unfold Sched.pickExcess at h
      split at h
      · cases h
        exact (Sched.visit_spares other _ _ _ _ _ _).trans (.same rfl rfl rfl)
      · cases h

theorem Sched.picks_spares (env : SchedEnv) (fuel : Nat) (x : Sched) : x.Spares u (Sched.picks env v fuel x) := by
  induction fuel generalizing x with
  | zero => exact .refl u x
  | succ fuel ih =>
    unfold Sched.picks
    split
    · split
      · rename_i y h
        exact (Sched.pick_spares other h).trans (ih y)
      · exact .refl u x
    · exact .refl u x

end

/-- A refill gives a unit out of service nothing (R145, R166). -/
theorem Sched.refill_spares {u : UnitId} {env : SchedEnv} (out : env.inService.get u = false) (x : Sched) :
    x.Spares u (x.refill env) := by
  refine Sched.foldl_spares (fun x v _ => ?_) x
  unfold Sched.refillUnit
  split
  · rename_i serves
    have other : v ≠ u := by
      rintro rfl
      simp [out] at serves
    exact ((Sched.serveCont_spares other _ _).trans (Sched.serveCont_spares other _ _)).trans (Sched.picks_spares other _ _ _)
  · exact .refl u x

/-! ### The flush of a unit (R154) -/

theorem Sched.loseStaged_spares (u : UnitId) (r : Sched × List (TenantId × CounterName)) (q : TenantId × LaneIx × Nat) :
    r.1.Spares u (Sched.loseStaged r q).1 := by
  unfold Sched.loseStaged
  split
  · split
    · dsimp only
      exact Sched.setLane_keeps u _ _ _ fun _ => rfl
    · exact Sched.removePacket_spares u _ _ _ _
  · exact .refl u _

theorem Sched.loseAll_spares (u : UnitId) (qs : List (TenantId × LaneIx × Nat)) (r : Sched × List (TenantId × CounterName)) :
    r.1.Spares u (qs.foldl Sched.loseStaged r).1 := by
  induction qs generalizing r with
  | nil => exact .refl u _
  | cons q qs ih => exact (Sched.loseStaged_spares u r q).trans (ih _)

theorem Sched.breakLanes_spares (u : UnitId) (x : Sched) (qs : List (TenantId × LaneIx × Seq)) : x.Spares u (x.breakLanes qs) :=
  Sched.foldl_spares (fun x q _ => x.breakAt_spares u q.1 q.2.1 q.2.2) x

theorem Sched.unbindIf_spares (u : UnitId) (p : TenantId → LaneIx → Lane → Bool) (x : Sched) (q : TenantId × LaneIx) :
    x.Spares u (if p q.1 q.2 (x.lane q.1 q.2) then x.unbind q.1 q.2 else x) := by
  split
  · exact x.unbind_spares u _ _
  · exact .refl u x

theorem Sched.unbindWhere_spares (u : UnitId) (p : TenantId → LaneIx → Lane → Bool) (x : Sched) : x.Spares u (x.unbindWhere p) :=
  Sched.foldl_spares (fun x q _ => x.unbindIf_spares u p q) x

/-- A lane unbound where it is bound to `u` is not bound to `u` (R167). -/
theorem Sched.unbindIf_unbound (u : UnitId) (x : Sched) (q : TenantId × LaneIx) :
    ((if (x.lane q.1 q.2).boundTo u then x.unbind q.1 q.2 else x).lane q.1 q.2).boundTo u = false := by
  split
  · exact (Sched.dropConts_spares u _ _).lanes _ _ (by simp [Sched.lane_setLane, Lane.boundTo])
  · rename_i h
    simpa using h

theorem mem_allLanes (t : TenantId) (l : LaneIx) : (t, l) ∈ allLanes := by
  simp [allLanes, laneIds]

theorem Sched.unbindWhere_unbound (u : UnitId) (x : Sched) (t : TenantId) (l : LaneIx) :
    ((x.unbindWhere fun _ _ z => z.boundTo u).lane t l).boundTo u = false := by
  have reached : ∀ (qs : List (TenantId × LaneIx)) (x : Sched), (t, l) ∈ qs →
      ((qs.foldl (fun y q => if (y.lane q.1 q.2).boundTo u then y.unbind q.1 q.2 else y) x).lane t l).boundTo u = false := by
    intro qs
    induction qs with
    | nil => exact fun _ h => absurd h List.not_mem_nil
    | cons q qs ih =>
      intro x h
      rcases List.mem_cons.1 h with rfl | h
      · rw [List.foldl_cons]
        exact (Sched.foldl_spares (fun x q _ => x.unbindIf_spares u (fun _ _ z => z.boundTo u) q) _).lanes t l
          (x.unbindIf_unbound u (t, l))
      · exact ih _ h
  exact reached allLanes x (mem_allLanes t l)

/-- The scheduler when the blocks of unit `u` are gone and the packets they carried have been dealt with (R154). -/
def Sched.flushed (x : Sched) (u : UnitId) : Sched :=
  let removed := (x.staging.get u).assured ++ (x.staging.get u).other
  ((packetsIn removed).foldl Sched.loseStaged ({ x with staging := x.staging.set u .empty }, [])).1.breakLanes (firstSeqs removed)

theorem Sched.flushUnit_eq (x : Sched) (u : UnitId) : (x.flushUnit u).1 = (x.flushed u).unbindWhere fun _ _ z => z.boundTo u := by
  simp only [Sched.flushUnit, Sched.flushed]

/-- The flush of a unit leaves it without blocks, record and lanes (R154). -/
theorem Sched.flushUnit_empties (x : Sched) (u : UnitId) :
    (((x.flushUnit u).1.staging.get u).held = 0 ∧ ((x.flushUnit u).1.staging.get u).record = none) ∧
      (∀ t l, ((x.flushUnit u).1.lane t l).boundTo u = false) ∧ (x.flushUnit u).1.capacity = x.capacity := by
  have flushed : ({ x with staging := x.staging.set u .empty } : Sched).Spares u (x.flushed u) :=
    (Sched.loseAll_spares u _ ({ x with staging := x.staging.set u .empty }, [])).trans (Sched.breakLanes_spares u _ _)
  rw [Sched.flushUnit_eq]
  have spares := flushed.trans (Sched.unbindWhere_spares u (fun _ _ z => z.boundTo u) _)
  exact ⟨⟨spares.held (by simp [Staging.held, Staging.empty, Staging.recordBlocks]), spares.record (by simp [Staging.empty])⟩,
    Sched.unbindWhere_unbound u _, spares.capacity⟩

end Sys2Proof.Machine
end

section
/-! SUPPORT. The requests for promotion and reversion (R83, R134, R136): what they leave unchanged, and when one is accepted. -/

namespace Sys2Proof.Machine

/-! ## What requests leave unchanged -/

/-- Between `s` and `t` LINK requests were made: entries of LINK kinds joined the plan, messages joined the anchor's queue, flags were
raised. Nothing happened without an anchor (R83). -/
structure State.Requests (s t : State) : Prop where
  only : ∃ c es n l, t = { s with scu := c, plc := { s.plc with plan := s.plc.plan ++ es, nextTag := n }, links := l } ∧
    ∀ e ∈ es, e.link? ≠ none
  notifies : s.Notifies t
  errors : ∀ j, (t.scu.get j).errors = (s.scu.get j).errors
  queue : ∀ j, s.htu.anchor ≠ some j → (t.scu.get j).queue = (s.scu.get j).queue
  waits : ∀ j m, s.Awaits j m → t.Awaits j m
  down : s.htu.anchor = none → t = s

theorem State.Requests.refl (s : State) : s.Requests s :=
  ⟨⟨s.scu, [], s.plc.nextTag, s.links, by simp, by simp⟩, .refl s, fun _ => rfl, fun _ _ => rfl, fun _ _ h => h, fun _ => rfl⟩

theorem State.Requests.htu {s t : State} (h : s.Requests t) : t.htu = s.htu := by
  obtain ⟨_, _, _, _, e, _⟩ := h.only
  rw [e]

theorem State.Requests.trans {s t u : State} (h : s.Requests t) (k : t.Requests u) : s.Requests u where
  only := by
    obtain ⟨_, es, _, _, e, links⟩ := h.only
    obtain ⟨c, es', n, l, e', links'⟩ := k.only
    refine ⟨c, es ++ es', n, l, by rw [e', e]; simp, fun x hx => ?_⟩
    exact (List.mem_append.1 hx).elim (links x) (links' x)
  notifies := h.notifies.trans k.notifies
  errors j := (k.errors j).trans (h.errors j)
  queue j a := (k.queue j (h.htu ▸ a)).trans (h.queue j a)
  waits j m w := k.waits j m (h.waits j m w)
  down a := (k.down (h.htu ▸ a)).trans (h.down a)

/-! ## An accepted request (R83) -/

/-- The entry that an accepted request adds (R83). -/
def State.requestEntry (s : State) (c : LinkChange) : Entry := ⟨s.plc.nextTag, .link c, none, .local, .proposed, 0⟩

theorem State.linkRequest_refused {s : State} {c : LinkChange} (h : s.linkRefused c = true) : s.linkRequest c = s := if_pos h

/-- An accepted request: its entry, its PROPOSE on the anchor, PLAN (R83, R103). -/
theorem State.linkRequest_accepted {s : State} {c : LinkChange} {a : CarrierId} (anchor : s.htu.anchor = some a)
    (h : s.linkRefused c = false) :
    ∃ l, s.linkRequest c = { s with
      scu := s.offered a (.proposeLink s.plc.nextTag c)
      plc := { s.plc with plan := s.plc.plan ++ [s.requestEntry c], nextTag := s.plc.nextTag + 1 }, links := l } ∧
      s.Notifies (s.linkRequest c) := by
  obtain ⟨l, e⟩ := (s.bumpTag.setPlc fun p => { p with plan := p.plan ++ [s.requestEntry c] }).planFlag_only [s.requestEntry c]
  have added : s.bumpTag.addEntry (s.requestEntry c) = { s with
      plc := { s.plc with plan := s.plc.plan ++ [s.requestEntry c], nextTag := s.plc.nextTag + 1 }, links := l } := e
  have request : s.linkRequest c = (s.bumpTag.addEntry (s.requestEntry c)).offer a (.proposeLink s.plc.nextTag c) := by
    rw [State.linkRequest, if_neg (by simp [h])]
    show (s.bumpTag.addEntry (s.requestEntry c)).offerAnchor _ = _
    rw [State.offerAnchor, show (s.bumpTag.addEntry (s.requestEntry c)).htu.anchor = some a by rw [added]; exact anchor]
  refine ⟨l, by rw [request, added]; rfl, ?_⟩
  have flagged : s.Notifies (s.bumpTag.addEntry (s.requestEntry c)) := (State.planFlag_notifies _ _).after rfl rfl
  rw [request]
  exact flagged.trans (.same rfl rfl)

theorem State.offered_awaits (s : State) (a : CarrierId) (m : Message) {t : State} (scu : t.scu = s.offered a m) : t.Awaits a m := by
  unfold State.Awaits
  rw [scu, State.offered, Four.get_modify_self]
  split
  · exact .inl (by simp)
  · rename_i full
    exact .inr (Nat.not_lt.1 full)

theorem State.linkRequest_asked {s : State} {c : LinkChange} {a : CarrierId} (anchor : s.htu.anchor = some a)
    (h : s.linkRefused c = false) : (s.linkRequest c).Asked c := by
  obtain ⟨l, e, -⟩ := State.linkRequest_accepted anchor h
  rw [e]
  refine ⟨s.requestEntry c, by simp, rfl, rfl, rfl, rfl, Nat.zero_le 1, fun b hb => ?_⟩
  cases anchor.symm.trans hb
  exact s.offered_awaits a _ rfl

theorem State.linkRequest_requests (s : State) (c : LinkChange) : s.Requests (s.linkRequest c) := by
  cases refused : s.linkRefused c with
  | true =>
    rw [State.linkRequest_refused refused]
    exact .refl s
  | false =>
    cases anchor : s.htu.anchor with
    | none => simp [State.linkRefused, State.hopUp, anchor] at refused
    | some a =>
      obtain ⟨l, e, notifies⟩ := State.linkRequest_accepted anchor refused
      have scu : (s.linkRequest c).scu = s.offered a (.proposeLink s.plc.nextTag c) := by rw [e]
      refine ⟨⟨_, [s.requestEntry c], _, l, e, by simp [State.requestEntry, Entry.link?]⟩, notifies, fun j => ?_, fun j other => ?_,
        fun j m w => ?_, fun down => by simp [anchor] at down⟩
      · rw [scu, State.offered, Four.get_modify]
        split
        · split <;> rfl
        · rfl
      · rw [scu, State.offered, Four.get_modify_of_ne]
        rintro rfl
        exact other anchor
      · unfold State.Awaits at w ⊢
        rw [scu, State.offered, Four.get_modify]
        split
        · split
          · rename_i space
            refine .inl ?_
            simp only [List.mem_append]
            exact .inl (w.resolve_right (Nat.not_le.2 space))
          · exact w
        · exact w

theorem State.requestRevert_requests (s : State) (r : Substitution) (b : Bool) : s.Requests (s.requestRevert r b) := by
  unfold State.requestRevert
  split
  · exact s.linkRequest_requests _
  · exact .refl s

theorem State.requestRevertsOf_requests (s : State) (k : CarrierId) : s.Requests (s.requestRevertsOf k) :=
  foldl_covered _ .refl .trans _ (fun s r => s.requestRevert_requests r (s.revertNow r)) _ s

theorem State.requestPromote_requests (s : State) (k : CarrierId) : s.Requests (s.requestPromote k) := by
  unfold State.requestPromote
  split
  · split
    · exact s.linkRequest_requests _
    · exact .refl s
  · exact .refl s

/-- What has been asked for stays asked for (R83). -/
theorem State.Asked.requests {s t : State} {c : LinkChange} (h : s.Asked c) (r : s.Requests t) : t.Asked c := by
  obtain ⟨e, mem, change, target, origin, state, age, waits⟩ := h
  obtain ⟨_, _, _, _, shape, _⟩ := r.only
  refine ⟨e, ?_, change, target, origin, state, age, fun a ha => r.waits a _ (waits a (r.htu ▸ ha))⟩
  rw [shape]
  exact List.mem_append_left _ mem

theorem State.Asked.congr {s t : State} {c : LinkChange} (h : s.Asked c) (plan : t.plc.plan = s.plc.plan) (htu : t.htu = s.htu)
    (scu : t.scu = s.scu) : t.Asked c := by
  unfold State.Asked State.Awaits at *
  rwa [plan, htu, scu]

/-! ## When a request is accepted (R83, R134, R136) -/

/-- A LEAD end with promotion on, its hop up without a role conflict, and no LINK entry in the plan. -/
structure State.Free (s : State) : Prop where
  up : s.htu.anchor ≠ none
  calm : s.htu.conflict = false
  plan : ∀ e ∈ s.plc.plan, e.link? = none
  lead : s.settings.endRole = .lead
  promotion : s.settings.promotion = true

theorem State.linkTouches_free {s : State} (h : s.Free) (u : UnitId) : s.linkTouches u = false := by
  simp only [State.linkTouches, List.any_eq_false, State.entryTouches]
  intro e he
  simp [h.plan e he]

theorem State.linkPending_free {s : State} (h : s.Free) (c : LinkChange) : s.linkPending c = false := by
  simp [State.linkPending, State.linkTouches_free h]

/-- Under no back-off a carrier of a free part may be named in a request (R128). -/
theorem State.requestable_free {s : State} (h : s.Free) (k : CarrierId) : s.requestable k = true ↔ s.backoffWithin 0 k := by
  unfold State.requestable State.backoffWithin
  cases s.unitOf k <;> simp [State.linkTouches_free h]

/-- A free part refuses no request for a promotion or a reversion (R83). -/
theorem State.linkRefused_free {s : State} (h : s.Free) {c : LinkChange} (kind : s.kindRefused c = false) : s.linkRefused c = false := by
  have up : s.hopUp = true := Option.isSome_iff_ne_none.2 h.up
  simp [State.linkRefused, up, h.calm, State.linkPending_free h, kind]

theorem State.linkRequest_free {s : State} (h : s.Free) {c : LinkChange} (kind : s.kindRefused c = false) :
    (s.linkRequest c).Asked c := by
  obtain ⟨a, anchor⟩ := Option.ne_none_iff_exists'.1 h.up
  exact State.linkRequest_asked anchor (State.linkRefused_free h kind)

/-! ### Reversion (R136) -/

theorem State.requestRevert_asked {s : State} (h : s.Free) {r : Substitution} (hs : s.backoffWithin 0 r.s) (ht : s.backoffWithin 0 r.t) :
    (s.requestRevert r true).Asked (.revert r.s r.t) := by
  rw [State.requestRevert, if_pos (by simp [h.lead, (State.requestable_free h _).2 hs, (State.requestable_free h _).2 ht])]
  exact State.linkRequest_free h (by simp [State.kindRefused, h.lead, h.promotion])

theorem State.requestRevert_unwanted (s : State) (r : Substitution) : s.requestRevert r false = s := by
  simp [State.requestRevert]

/-- Without a record whose reversion is wanted none is asked for (R136). -/
theorem State.requestRevertsOf_unwanted {s : State} {k : CarrierId}
    (unwanted : ∀ r ∈ s.cpm.subs, r.s = k ∨ r.t = k → s.revertNow r = false) : s.requestRevertsOf k = s := by
  have fold : ∀ rs : List Substitution, (∀ r ∈ rs, s.revertNow r = false) →
      rs.foldl (fun s r => s.requestRevert r (s.revertNow r)) s = s := by
    intro rs
    induction rs with
    | nil => exact fun _ => rfl
    | cons r rs ih =>
      intro all
      rw [List.foldl_cons, all r (by simp), State.requestRevert_unwanted]
      exact ih fun q hq => all q (by simp [hq])
  refine fold _ fun r hr => ?_
  obtain ⟨mem, names⟩ := List.mem_filter.1 hr
  exact unwanted r mem (by simpa using names)

/-- The one record of carrier `k` whose reversion is wanted is asked for (R136). -/
theorem State.requestRevertsOf_asked {s : State} (h : s.Free) {k : CarrierId} {r : Substitution} (mem : r ∈ s.cpm.subs)
    (names : r.s = k ∨ r.t = k) (wanted : s.revertNow r = true) (hs : s.backoffWithin 0 r.s) (ht : s.backoffWithin 0 r.t)
    (others : ∀ q ∈ s.cpm.subs, q.s = k ∨ q.t = k → q ≠ r → s.revertNow q = false) :
    (s.requestRevertsOf k).Asked (.revert r.s r.t) := by
  have fold : ∀ rs : List Substitution, r ∈ rs → (∀ q ∈ rs, q ≠ r → s.revertNow q = false) →
      (rs.foldl (fun s r => s.requestRevert r (s.revertNow r)) s).Asked (.revert r.s r.t) := by
    intro rs
    induction rs with
    | nil => exact fun h => absurd h List.not_mem_nil
    | cons q rs ih =>
      intro hr all
      rw [List.foldl_cons]
      by_cases same : q = r
      · rw [same, wanted]
        exact (State.requestRevert_asked h hs ht).requests
          (foldl_covered _ .refl .trans _ (fun s r => s.requestRevert_requests r (s.revertNow r)) rs _)
      · rw [all q (by simp) same, State.requestRevert_unwanted]
        exact ih ((List.mem_cons.1 hr).resolve_left fun e => same e.symm) fun p hp => all p (by simp [hp])
  refine fold _ (List.mem_filter.2 ⟨mem, by simpa using names⟩) fun q hq => ?_
  obtain ⟨mem', names'⟩ := List.mem_filter.1 hq
  exact others q mem' (by simpa using names')

/-! ### Promotion (R134) -/

/-- The lowest-numbered carrier that may act for `k` is asked to (R134). -/
theorem State.requestPromote_asked {s : State} (h : s.Free) {k c : CarrierId} (acting : s.cpm.acting.get k = some .traffic)
    (single : s.members k = [k]) (unreplaced : ∀ r ∈ s.cpm.subs, r.s ≠ k) (few : s.cpm.subs.length < 2)
    (failed : (s.link k).failed = true) (able : s.backoffWithin 0 k) (stands : s.standsBy 0 c) (first : ∀ j < c, ¬s.standsBy 0 j) :
    (s.requestPromote k).Asked (.promote c k) := by
  have standing : ∀ j, (s.cpm.acting.get j == some .standby && s.isJoined j && s.isSingle j && s.requestable j) = true ↔
      s.standsBy 0 j := by
    intro j
    simp only [Bool.and_eq_true, beq_iff_eq, State.isSingle, State.requestable_free h, State.standsBy]
    tauto
  have found : ids.find? (fun j => s.cpm.acting.get j == some .standby && s.isJoined j && s.isSingle j && s.requestable j) = some c :=
    find_ids_eq_some ((standing c).2 stands) fun j hj => by
      rw [Bool.eq_false_iff]
      exact fun g => first j hj ((standing j).1 g)
  have all : (s.cpm.subs.all fun r => r.s != k) = true := by simpa using unreplaced
  rw [State.requestPromote, if_pos (by simp [h.lead, h.promotion, acting, State.isSingle, single, all, failed, few,
    (State.requestable_free h k).2 able, -List.all_eq_true])]
  simp only [found]
  exact State.linkRequest_free h (by simp [State.kindRefused, h.lead, h.promotion])

end Sys2Proof.Machine
end

section
/-! SUPPORT. What a loss of lock hands on, part by part (R31, R38; log 10): frame hold, adaptation and plan of the unit, scheduler, pair
frame record, and HOP_DOWN. -/

namespace Sys2Proof.Machine

/-! ## Received blocks (R175, R176) -/

/-- Between `s` and `t` received blocks were taken: only the Receive Assembler, traffic counts and links differ, and flags were raised. -/
structure State.Receives (s t : State) : Prop where
  only : ∃ r n l, t = { s with rxa := r, cpm := { s.cpm with traffic := n }, links := l }
  notifies : s.Notifies t

theorem State.Receives.refl (s : State) : s.Receives s := ⟨⟨_, _, _, rfl⟩, .refl s⟩

theorem State.Receives.trans {s t u : State} (h : s.Receives t) (k : t.Receives u) : s.Receives u := by
  obtain ⟨⟨_, _, _, rfl⟩, n⟩ := h
  obtain ⟨⟨_, _, _, rfl⟩, n'⟩ := k
  exact ⟨⟨_, _, _, rfl⟩, n.trans n'⟩

theorem State.countAll_receives (s : State) (cs : List (TenantId × CounterName)) : s.Receives (s.countAll cs) :=
  foldl_covered _ .refl .trans _ (fun s _ => ⟨⟨s.rxa, s.cpm.traffic, _, rfl⟩, s.count_notifies _ _⟩) cs s

theorem State.takeRxBlock_receives (u : UnitId) (s : State) (b : RxBlock) : s.Receives (s.takeRxBlock u b) := by
  unfold State.takeRxBlock
  split
  · exact .refl s
  · exact .refl s
  · rename_i t l seq fs _
    have taken : s.Receives ({ s with rxa := (s.rxa.takeBlock s.rxEnv t l seq fs).1 }.countTraffic u 1) :=
      ⟨⟨_, _, s.links, rfl⟩, .same rfl rfl⟩
    exact taken.trans (State.countAll_receives _ _)

theorem State.reassemble_receives (s : State) (u : UnitId) (bs : List RxBlock) : s.Receives (s.reassemble u bs) :=
  foldl_covered _ .refl .trans _ (State.takeRxBlock_receives u) bs s

theorem State.clearHold_receives (s : State) (u : UnitId) : s.Receives (s.clearHold u) :=
  ⟨⟨_, s.cpm.traffic, s.links, rfl⟩, .same rfl rfl⟩

theorem State.releaseHold_receives (s : State) (u : UnitId) : s.Receives (s.releaseHold u) := by
  unfold State.releaseHold
  split
  · exact (s.clearHold_receives _).trans (State.reassemble_receives _ _ _)
  · exact .refl s

theorem State.intoHold_receives (s : State) (u : UnitId) (f : HeldFrame) : s.Receives (s.intoHold u f) := by
  unfold State.intoHold
  split
  · exact ⟨⟨_, s.cpm.traffic, s.links, rfl⟩, .same rfl rfl⟩
  · exact s.reassemble_receives u _

theorem State.pairFrame_receives (s : State) (u : UnitId) (f : HeldFrame) : s.Receives (s.pairFrame u f) := by
  unfold State.pairFrame
  split
  · exact s.intoHold_receives _ _
  · split
    · exact (s.releaseHold_receives _).trans (State.intoHold_receives _ _ _)
    · split
      · exact (s.clearHold_receives _).trans (State.reassemble_receives _ _ _)
      · exact (s.releaseHold_receives _).trans (State.intoHold_receives _ _ _)

theorem State.pairBad_receives (s : State) (u : UnitId) (k : CarrierId) : s.Receives (s.pairBad u k) := by
  unfold State.pairBad
  split
  · split
    · exact s.releaseHold_receives _
    · exact .refl s
  · exact .refl s

theorem State.receiveFrame_receives (s : State) (k : CarrierId) (h : Option Header) (bs : List RxBlock) :
    s.Receives (s.receiveFrame k h bs) := by
  unfold State.receiveFrame
  split
  · exact .refl s
  · split
    · dsimp only
      split
      · exact s.pairFrame_receives _ _
      · exact s.reassemble_receives _ _
    · split
      · exact s.pairBad_receives _ _
      · exact .refl s

/-! ## Removal of entries (R71, R93, R100) -/

theorem State.formCapacity_shape (s : State) :
    ∃ l, s.formCapacity = { s with sched := s.sched.formed s.capacityNow, links := l } := by
  obtain ⟨x, l, e⟩ := s.formCapacity_only
  have sched : x = s.sched.formed s.capacityNow := by rw [← s.formCapacity_sched, e]
  exact ⟨l, by rw [e, sched]⟩

/-- Between `s` and `t` entries have left the plan: contexts may have left PROPOSING for STEADY, draining marks may have been cleared. -/
structure State.Removes (s t : State) : Prop where
  only : ∃ a d, t = { s with ade := a, plc := { s.plc with draining := d } }
  steady : ∀ u, (s.ade.get u).state = .steady → (t.ade.get u).state = .steady
  ask : ∀ u, (t.ade.get u).ask = (s.ade.get u).ask

theorem State.Removes.refl (s : State) : s.Removes s := ⟨⟨_, _, rfl⟩, fun _ h => h, fun _ => rfl⟩

theorem State.Removes.trans {s t u : State} (h : s.Removes t) (k : t.Removes u) : s.Removes u := by
  obtain ⟨⟨_, _, rfl⟩, steady, ask⟩ := h
  obtain ⟨⟨_, _, rfl⟩, steady', ask'⟩ := k
  exact ⟨⟨_, _, rfl⟩, fun u h => steady' u (steady u h), fun u => (ask' u).trans (ask u)⟩

theorem State.endProposing_removes (s : State) (v : UnitId) : s.Removes (s.endProposing v) := by
  refine ⟨⟨_, s.plc.draining, rfl⟩, fun u h => ?_, fun u => ?_⟩ <;>
    simp only [State.endProposing, State.setAde_ade, Four.get_modify]
  · split
    · simp [h]
    · exact h
  · split
    · split <;> rfl
    · rfl

theorem State.afterRemoval_removes (s : State) (e : Entry) : s.Removes (s.afterRemoval e) := by
  unfold State.afterRemoval
  split
  · exact s.endProposing_removes _
  · exact .refl s
  · split
    · split
      · exact ⟨⟨s.ade, _, rfl⟩, fun _ h => h, fun _ => rfl⟩
      · exact .refl s
    · exact .refl s

/-- Only the removal of a LINK entry clears a draining mark (R93). -/
theorem State.afterRemoval_draining {s : State} {e : Entry} (profile : e.link? = none) :
    (s.afterRemoval e).plc.draining = s.plc.draining := by
  unfold State.afterRemoval
  split
  · rfl
  · rfl
  · rename_i h
    simp [Entry.link?, h] at profile

theorem State.afterRemovals_removes (s : State) (es : List Entry) : s.Removes (es.foldl State.afterRemoval s) :=
  foldl_covered _ .refl .trans _ State.afterRemoval_removes es s

theorem State.afterRemovals_draining {s : State} {es : List Entry} (profile : ∀ e ∈ es, e.link? = none) :
    (es.foldl State.afterRemoval s).plc.draining = s.plc.draining := by
  induction es generalizing s with
  | nil => rfl
  | cons e es ih =>
    rw [List.foldl_cons, ih fun x hx => profile x (by simp [hx]), State.afterRemoval_draining (profile e (by simp))]

/-- The removal of entries, with C formed behind it (R91–R94, R100). -/
theorem State.removeEntries_shape (s : State) (p : Entry → Bool) :
    ∃ a d l, s.removeEntries p = { s with
        ade := a, plc := { s.plc with plan := s.plc.plan.filter fun e => !p e, draining := d },
        sched := s.sched.formed (s.removeEntries p).capacityNow, links := l } ∧
      (∀ u, (s.ade.get u).state = .steady → (a.get u).state = .steady) ∧ (∀ u, (a.get u).ask = (s.ade.get u).ask) ∧
      ((∀ e ∈ s.plc.plan, p e = true → e.link? = none) → d = s.plc.draining) := by
  obtain ⟨l, erased⟩ := (s.setPlc fun c => { c with plan := c.plan.filter fun e => !p e }).planFlag_only (s.plc.plan.filter p)
  obtain ⟨⟨a, d, removed⟩, steady, ask⟩ := (s.eraseEntries p).afterRemovals_removes (s.plc.plan.filter p)
  obtain ⟨l', formed⟩ := ((s.plc.plan.filter p).foldl State.afterRemoval (s.eraseEntries p)).formCapacity_shape
  have erased' : s.eraseEntries p = { s with plc := { s.plc with plan := s.plc.plan.filter fun e => !p e }, links := l } := erased
  refine ⟨a, d, l', ?_, fun u h => ?_, fun u => ?_, fun profile => ?_⟩
  · rw [State.removeEntries, State.formCapacity_now, formed, removed, erased']
  · simpa [removed] using steady u (by rw [erased']; exact h)
  · have same := ask u
    rw [removed, erased'] at same
    exact same
  · have kept := State.afterRemovals_draining (s := s.eraseEntries p) (es := s.plc.plan.filter p) fun e he =>
      profile e (List.mem_of_mem_filter he) (List.mem_filter.1 he).2
    rw [removed, erased'] at kept
    exact kept

/-! ## What every part of a loss of lock keeps -/

/-- What each part of a loss of lock keeps, once the carrier's controller has changed. -/
structure State.Unwinds (s t : State) : Prop where
  held : s.Held t
  clc : t.clc = s.clc
  ftr : t.ftr = s.ftr
  out : t.out = s.out
  level : t.pbu.level = s.pbu.level
  hsn : t.htu.hsn = s.htu.hsn
  frame : t.htu.frame = s.htu.frame
  lastHeader : t.htu.lastHeader = s.htu.lastHeader
  errors : ∀ j, (t.scu.get j).errors = (s.scu.get j).errors
  notifies : s.Notifies t
  steady : ∀ u, (s.ade.get u).state = .steady → (t.ade.get u).state = .steady
  ask : ∀ u, (s.ade.get u).ask = none → (t.ade.get u).ask = none
  dropSeen : ∀ u, s.plc.dropSeen.get u = false → t.plc.dropSeen.get u = false
  plan : ∀ e ∈ t.plc.plan, e ∈ s.plc.plan ∨ e.link? ≠ none
  sched : ∀ u, s.unitJoined u = false → s.sched.Leaves u t.sched

theorem State.isJoined_congr {s t : State} (clc : t.clc = s.clc) (j : CarrierId) : t.isJoined j = s.isJoined j := by
  simp only [State.isJoined, State.isLocked, State.link, clc]

theorem State.isLocked_congr {s t : State} (clc : t.clc = s.clc) (j : CarrierId) : t.isLocked j = s.isLocked j := by
  simp only [State.isLocked, State.link, clc]

theorem State.unitLocked_congr {s t : State} (settings : t.settings = s.settings) (locked : ∀ j, t.isLocked j = s.isLocked j)
    (u : UnitId) : t.unitLocked u = s.unitLocked u := by
  rw [State.unitLocked, State.members_congr settings, funext locked, State.unitLocked]

section
variable {s t v : State}

theorem State.Unwinds.joined (h : s.Unwinds t) (u : UnitId) : t.unitJoined u = s.unitJoined u :=
  State.unitJoined_congr h.held.settings (State.isJoined_congr h.clc) u

theorem State.Unwinds.locked (h : s.Unwinds t) (u : UnitId) : t.unitLocked u = s.unitLocked u :=
  State.unitLocked_congr h.held.settings (State.isLocked_congr h.clc) u

theorem State.Unwinds.trans (h : s.Unwinds t) (k : t.Unwinds v) : s.Unwinds v where
  held := h.held.trans k.held
  clc := k.clc.trans h.clc
  ftr := k.ftr.trans h.ftr
  out := k.out.trans h.out
  level := k.level.trans h.level
  hsn := k.hsn.trans h.hsn
  frame := k.frame.trans h.frame
  lastHeader := k.lastHeader.trans h.lastHeader
  errors j := (k.errors j).trans (h.errors j)
  notifies := h.notifies.trans k.notifies
  steady u e := k.steady u (h.steady u e)
  ask u e := k.ask u (h.ask u e)
  dropSeen u e := k.dropSeen u (h.dropSeen u e)
  plan e he := (k.plan e he).elim (h.plan e) .inr
  sched u e := (h.sched u e).trans (k.sched u ((h.joined u).trans e))

/-- A change of plan, contexts, scheduler, pool, view and links alone. -/
theorem State.Unwinds.of {a : Four Ade} {p : Plc} {c : Cpm} {x : Sched} {r : Rxa} {l : Four Tli}
    (shape : t = { s with ade := a, plc := p, cpm := c, sched := x, rxa := r, links := l }) (notifies : s.Notifies t)
    (steady : ∀ u, (s.ade.get u).state = .steady → (a.get u).state = .steady)
    (ask : ∀ u, (s.ade.get u).ask = none → (a.get u).ask = none)
    (dropSeen : ∀ u, s.plc.dropSeen.get u = false → p.dropSeen.get u = false) (plan : ∀ e ∈ p.plan, e ∈ s.plc.plan)
    (sched : ∀ u, s.unitJoined u = false → s.sched.Leaves u x) : s.Unwinds t := by
  subst shape
  exact ⟨⟨⟨rfl, rfl, rfl, rfl, rfl, rfl⟩, rfl, rfl, rfl, rfl, rfl⟩, rfl, rfl, rfl, rfl, rfl, rfl, rfl, fun _ => rfl, notifies, steady,
    ask, dropSeen, fun e he => .inl (plan e he), sched⟩

theorem State.Unwinds.refl (s : State) : s.Unwinds s :=
  .of (a := s.ade) (p := s.plc) (c := s.cpm) (x := s.sched) (r := s.rxa) (l := s.links) rfl (.refl s) (fun _ h => h) (fun _ h => h)
    (fun _ h => h) (fun _ h => h) fun u _ => .refl u _

theorem State.Receives.unwinds (h : s.Receives t) : s.Unwinds t := by
  obtain ⟨⟨r, n, l, e⟩, notifies⟩ := h
  exact .of (a := s.ade) (p := s.plc) (x := s.sched) e notifies (fun _ h => h) (fun _ h => h) (fun _ h => h) (fun _ h => h)
    fun u _ => .refl u _

theorem State.Requests.unwinds (h : s.Requests t) : s.Unwinds t := by
  obtain ⟨⟨c, es, n, l, rfl, links⟩, notifies, errors, -⟩ := h
  refine ⟨⟨⟨rfl, rfl, rfl, rfl, rfl, rfl⟩, rfl, rfl, rfl, rfl, rfl⟩, rfl, rfl, rfl, rfl, rfl, rfl, rfl, errors, notifies, fun _ h => h,
    fun _ h => h, fun _ h => h, fun e he => ?_, fun u _ => .refl u _⟩
  exact (List.mem_append.1 he).imp id (links e)

end

theorem State.removeEntries_unwinds (s : State) (p : Entry → Bool) : s.Unwinds (s.removeEntries p) := by
  obtain ⟨a, d, l, e, steady, ask, -⟩ := s.removeEntries_shape p
  exact .of (c := s.cpm) (r := s.rxa) e (s.removeEntries_notifies p) steady (fun u h => (ask u).trans h) (fun _ h => h)
    (fun _ h => List.mem_of_mem_filter h) fun u _ => s.sched.formed_leaves u _

theorem State.formCapacity_unwinds (s : State) : s.Unwinds s.formCapacity := by
  obtain ⟨l, e⟩ := s.formCapacity_shape
  exact .of (a := s.ade) (p := s.plc) (c := s.cpm) (r := s.rxa) e s.formCapacity_notifies (fun _ h => h) (fun _ h => h) (fun _ h => h)
    (fun _ h => h) fun u _ => s.sched.formed_leaves u _

theorem State.settleCheck_unwinds (s : State) : s.Unwinds s.settleCheck := by
  have held := s.settleCheck_held
  have notifies := s.settleCheck_notifies
  obtain ⟨b, l, e⟩ := s.settleCheck_only
  rw [e] at held notifies ⊢
  exact ⟨held, rfl, rfl, rfl, rfl, rfl, rfl, rfl, fun _ => rfl, notifies, fun _ h => h, fun _ h => h, fun _ h => h, fun _ h => .inl h,
    fun u _ => .refl u _⟩

theorem State.startTransmitters_unwinds (s : State) : s.Unwinds s.startTransmitters :=
  .of (a := s.ade) (p := s.plc) (c := s.cpm) (x := s.sched) (r := s.rxa) rfl s.startTransmitters_notifies (fun _ h => h) (fun _ h => h)
    (fun _ h => h) (fun _ h => h) fun u _ => .refl u _

theorem State.raiseAll_unwinds (s : State) (f : BitVec 8) : s.Unwinds (s.raiseAll f) :=
  .of (a := s.ade) (p := s.plc) (c := s.cpm) (x := s.sched) (r := s.rxa) rfl (s.raiseAll_notifies f) (fun _ h => h) (fun _ h => h)
    (fun _ h => h) (fun _ h => h) fun u _ => .refl u _

theorem State.clearDwell_unwinds (s : State) (k : CarrierId) : s.Unwinds (s.clearDwell k) :=
  .of (a := s.ade) (p := s.plc) (x := s.sched) (r := s.rxa) (l := s.links) rfl (.same rfl rfl) (fun _ h => h) (fun _ h => h)
    (fun _ h => h) (fun _ h => h) fun u _ => .refl u _

end Sys2Proof.Machine
end

section
/-! SUPPORT. A unit whose carrier has left LOCKED, up to the hop (R31, R38, R76, R140, R152, R154), and the hop itself (R6, R7). -/

namespace Sys2Proof.Machine

/-! ## The unit (R76, R98, R100) -/

/-- The unit's profile entries, drop-seen mark and context when no member is LOCKED (R76, R98, R100). -/
def State.Idles (s : State) (u : UnitId) : Prop :=
  s.plc.plan.all (fun e => !e.isRxOf u && !e.isTxOf u) = true ∧ s.plc.dropSeen.get u = false ∧ (s.ade.get u).state = .steady ∧
    (s.ade.get u).ask = none

theorem Entry.isProfileOf_link {u : UnitId} {e : Entry} (h : (e.isRxOf u || e.isTxOf u) = true) : e.link? = none := by
  unfold Entry.isRxOf Entry.isTxOf at h
  unfold Entry.link?
  split <;> simp_all

theorem State.Idles.unwinds {s t : State} {u : UnitId} (h : s.Idles u) (w : s.Unwinds t) : t.Idles u := by
  obtain ⟨plan, dropSeen, steady, ask⟩ := h
  refine ⟨List.all_eq_true.2 fun e he => ?_, w.dropSeen u dropSeen, w.steady u steady, w.ask u ask⟩
  rcases w.plan e he with old | link
  · exact List.all_eq_true.1 plan e old
  · by_contra profile
    exact link (Entry.isProfileOf_link (u := u) (by simpa [Decidable.or_iff_not_imp_left] using profile))

/-- A unit's last LOCKED member has left: its context before its entries go (R76, R98). -/
def State.steadied (s : State) (u : UnitId) : State :=
  (s.setAde u fun a => { a with state := .steady, ask := none, upDwell := 0 }).setPlc fun p =>
    { p with dropSeen := p.dropSeen.set u false }

theorem State.unitUnlocked_eq (s : State) (u : UnitId) :
    s.unitUnlocked u = (s.steadied u).removeEntries fun e => e.isRxOf u || e.isTxOf u := rfl

theorem State.steadied_unwinds (s : State) (u : UnitId) : s.Unwinds (s.steadied u) := by
  refine .of (c := s.cpm) (x := s.sched) (r := s.rxa) (l := s.links) rfl (.same rfl rfl) (fun v h => ?_) (fun v h => ?_) (fun v h => ?_)
    (fun _ h => h) fun v _ => .refl v _
  · rw [State.setAde_ade, Four.get_modify]
    split
    · rfl
    · exact h
  · rw [State.setAde_ade, Four.get_modify]
    split
    · rfl
    · exact h
  · rw [Four.get_set]
    split
    · rfl
    · exact h

theorem State.unitUnlocked_unwinds (s : State) (u : UnitId) : s.Unwinds (s.unitUnlocked u) :=
  (s.steadied_unwinds u).trans (State.removeEntries_unwinds _ _)

/-- The unit's last LOCKED member gone, its profile entries go and its context is STEADY (R76, R98, R100). -/
theorem State.unitUnlocked_idles (s : State) (u : UnitId) : (s.unitUnlocked u).Idles u := by
  obtain ⟨a, d, l, e, steady, ask, -⟩ := (s.steadied u).removeEntries_shape fun e => e.isRxOf u || e.isTxOf u
  rw [State.unitUnlocked_eq, e]
  refine ⟨List.all_eq_true.2 fun x hx => ?_, by simp [State.steadied], steady u (by simp [State.steadied]), ?_⟩
  · simpa using (List.mem_filter.1 hx).2
  · exact (ask u).trans (by simp [State.steadied])

/-- The removal of a unit's profile entries forms C once, of the same units (R140). -/
theorem State.unitUnlocked_sched (s : State) (u : UnitId) :
    ∃ a p l, s.unitUnlocked u = { s with ade := a, plc := p, sched := s.sched.formed (s.unitUnlocked u).capacityNow, links := l } ∧
      ∀ e ∈ p.plan, e ∈ s.plc.plan := by
  obtain ⟨a, d, l, e, -⟩ := (s.steadied u).removeEntries_shape fun e => e.isRxOf u || e.isTxOf u
  exact ⟨a, _, l, e, fun _ h => List.mem_of_mem_filter h⟩

/-! ## The scheduler (R154, R167) -/

theorem Sched.flushUnit_spares (x : Sched) (v u : UnitId) : x.Spares v (x.flushUnit u).1 := by
  have emptied : x.Spares v { x with staging := x.staging.set u .empty } := by
    refine ⟨⟨fun h => ?_, fun h => ?_, fun _ _ h => h⟩, rfl⟩ <;> rw [Four.get_set] <;> split
    · rfl
    · exact h
    · rfl
    · exact h
  rw [Sched.flushUnit_eq]
  exact ((emptied.trans (Sched.loseAll_spares v _ ({ x with staging := x.staging.set u .empty }, []))).trans
    (Sched.breakLanes_spares v _ _)).trans (Sched.unbindWhere_spares v _ _)

/-- A change of the scheduler alone that forms no C. -/
theorem State.rescheduled_unwinds {s : State} {x : Sched} (capacity : x.capacity = s.sched.capacity)
    (leaves : ∀ v, s.unitJoined v = false → s.sched.Leaves v x) : s.Unwinds { s with sched := x } :=
  .of (a := s.ade) (p := s.plc) (c := s.cpm) (r := s.rxa) (l := s.links) rfl (.same rfl capacity) (fun _ h => h) (fun _ h => h)
    (fun _ h => h) (fun _ h => h) leaves

theorem State.refill_spares {s : State} {v : UnitId} (out : s.unitJoined v = false) : s.sched.Spares v s.refill.sched :=
  Sched.refill_spares (by simp [State.env, State.inService, out]) s.sched

theorem State.refill_now (s : State) : s.refill.capacityNow = s.capacityNow :=
  State.capacityNow_congr rfl (fun _ => rfl) rfl rfl rfl

section
variable {s : State} {u : UnitId} (out : s.unitJoined u = false)
include out

theorem State.refill_unwinds : s.Unwinds s.refill :=
  State.rescheduled_unwinds (State.refill_spares out).capacity fun _ out => (State.refill_spares out).toLeaves

theorem State.refill_capacity : s.refill.sched.capacity = s.sched.capacity := (State.refill_spares out).capacity

end

/-- The scheduler's flush of unit `u`, with its increments (R154). -/
def State.flush (s : State) (u : UnitId) : State := { s with sched := (s.sched.flushUnit u).1 }.countAll (s.sched.flushUnit u).2

theorem State.flush_unwinds (s : State) (u : UnitId) : s.Unwinds (s.flush u) :=
  (State.rescheduled_unwinds (s.sched.flushUnit_spares u u).capacity fun v _ => (s.sched.flushUnit_spares v u).toLeaves).trans
    (State.countAll_receives _ _).unwinds

theorem State.flush_sched (s : State) (u : UnitId) : (s.flush u).sched = (s.sched.flushUnit u).1 := by
  obtain ⟨_, _, _, e⟩ := (State.countAll_receives { s with sched := (s.sched.flushUnit u).1 } (s.sched.flushUnit u).2).only
  rw [State.flush, e]

theorem State.loseUnit_held {s : State} {u : UnitId} (h : (s.sched.staging.get u).held ≠ 0) :
    s.loseUnit u = (s.flush u).formCapacity.refill := by
  rw [State.loseUnit, if_pos (by simpa [Sched.holdsBlocks] using h)]
  rfl

theorem State.loseUnit_bare {s : State} {u : UnitId} (h : (s.sched.staging.get u).held = 0) : s.loseUnit u = s.formCapacity := by
  rw [State.loseUnit, if_neg (by simp [Sched.holdsBlocks, h])]

section
variable {s : State} {u : UnitId} (out : s.unitJoined u = false)
include out

theorem State.flushed_out : (s.flush u).formCapacity.unitJoined u = false :=
  (((s.flush_unwinds u).trans (State.formCapacity_unwinds _)).joined u).trans out

theorem State.loseUnit_unwinds : s.Unwinds (s.loseUnit u) := by
  by_cases h : (s.sched.staging.get u).held = 0
  · rw [State.loseUnit_bare h]
    exact s.formCapacity_unwinds
  · rw [State.loseUnit_held h]
    exact ((s.flush_unwinds u).trans (State.formCapacity_unwinds _)).trans (State.refill_unwinds (State.flushed_out out))

/-- Behind the loss of a unit C is the sum over the units in service (R140). -/
theorem State.loseUnit_capacity : (s.loseUnit u).sched.capacity = (s.loseUnit u).capacityNow := by
  by_cases h : (s.sched.staging.get u).held = 0
  · rw [State.loseUnit_bare h]
    simp
  · rw [State.loseUnit_held h, State.refill_capacity (State.flushed_out out), State.formCapacity_capacity, State.refill_now,
      State.formCapacity_now]

/-- A unit that holds no block is left to the boundary's unbinding; one that holds blocks loses them with its lanes (R154, R167). -/
theorem State.loseUnit_empties : ((s.loseUnit u).sched.staging.get u).held = 0 ∧
    ((s.sched.staging.get u).held ≠ 0 → ∀ t l, ((s.loseUnit u).sched.lane t l).boundTo u = false) := by
  by_cases h : (s.sched.staging.get u).held = 0
  · rw [State.loseUnit_bare h, State.formCapacity_sched]
    exact ⟨h, fun g => absurd h g⟩
  · obtain ⟨⟨held, -⟩, lanes, -⟩ := s.sched.flushUnit_empties u
    have later : (s.sched.flushUnit u).1.Leaves u (s.loseUnit u).sched := by
      rw [State.loseUnit_held h, ← State.flush_sched]
      exact ((State.formCapacity_unwinds _).sched u (((s.flush_unwinds u).joined u).trans out)).trans
        (State.refill_spares (State.flushed_out out)).toLeaves
    exact ⟨later.held held, fun _ t l => later.lanes t l (lanes t l)⟩

end

theorem State.unlockService_unwinds (s : State) (u : UnitId) : s.Unwinds (s.unlockService u) := by
  unfold State.unlockService
  split
  · exact s.formCapacity_unwinds
  · rename_i out
    exact State.loseUnit_unwinds (by simpa using out)

theorem State.unlockService_capacity (s : State) (u : UnitId) :
    (s.unlockService u).sched.capacity = (s.unlockService u).capacityNow := by
  unfold State.unlockService
  split
  · simp
  · rename_i out
    exact State.loseUnit_capacity (by simpa using out)

/-- Where the unit holds no block C is formed and nothing else of the scheduler changes (R140, R154). -/
theorem State.unlockService_bare {s : State} {u : UnitId} (h : (s.sched.staging.get u).held = 0) :
    s.unlockService u = s.formCapacity := by
  unfold State.unlockService
  split
  · rfl
  · exact State.loseUnit_bare h

theorem State.closeIfTaken_unwinds (s : State) (u : UnitId) : s.Unwinds (s.closeIfTaken u) := by
  unfold State.closeIfTaken
  split
  · split
    · exact State.rescheduled_unwinds rfl fun v _ => (Sched.closeRecord_spares v u s.sched).toLeaves
    · exact .refl s
  · exact .refl s

/-- Without a joined member the unit keeps no pair frame record (R152). -/
theorem State.closeIfTaken_closed {s : State} {u : UnitId} (out : s.unitJoined u = false) :
    ((s.closeIfTaken u).sched.staging.get u).record = none := by
  cases h : ((s.closeIfTaken u).sched.staging.get u).record with
  | none => rfl
  | some r =>
    obtain ⟨-, m, mem, joined, -⟩ := State.closeIfTaken_record h
    have none := List.any_eq_false.1 out m mem
    exact absurd joined none

/-- The closing test leaves C, the credits and every lane (R152). -/
theorem State.closeIfTaken_sched (s : State) (u : UnitId) :
    ∃ g, s.closeIfTaken u = { s with sched := { s.sched with staging := g } } := by
  unfold State.closeIfTaken
  split
  · split
    · exact ⟨_, rfl⟩
    · exact ⟨_, rfl⟩
  · exact ⟨_, rfl⟩

/-! ## The unit as a whole -/

/-- What a loss of lock hands on to the carrier's unit, before the hop (R31, R38; log 10). -/
def State.releaseUnit (s : State) (u : UnitId) : State := (((s.releaseHold u).unlockUnit u).unlockService u).closeIfTaken u

theorem State.unlockUnit_unwinds (s : State) (u : UnitId) : s.Unwinds (s.unlockUnit u) := by
  unfold State.unlockUnit
  split
  · exact .refl s
  · exact s.unitUnlocked_unwinds u

theorem State.unlockUnit_idles {s : State} {u : UnitId} (out : s.unitLocked u = false) : (s.unlockUnit u).Idles u := by
  rw [State.unlockUnit, if_neg (by simp [out])]
  exact s.unitUnlocked_idles u

/-- Behind the unit's own part C has been formed once at most, and the plan has lost entries only. -/
theorem State.unlockUnit_shape (s : State) (u : UnitId) :
    ∃ a p x l, s.unlockUnit u = { s with ade := a, plc := p, sched := x, links := l } ∧ (∀ e ∈ p.plan, e ∈ s.plc.plan) ∧
      (x = s.sched ∨ x = s.sched.formed (s.unlockUnit u).capacityNow) := by
  unfold State.unlockUnit
  split
  · exact ⟨s.ade, s.plc, s.sched, s.links, rfl, fun _ h => h, .inl rfl⟩
  · obtain ⟨a, p, l, e, plan⟩ := s.unitUnlocked_sched u
    exact ⟨a, p, _, l, e, plan, .inr rfl⟩

/-- What a unit is left with once its carrier `k` has left LOCKED, before the hop is looked at. -/
structure State.Released (s t : State) (u : UnitId) : Prop where
  shape : ∃ r n a p x l, t = { s with rxa := r, cpm := { s.cpm with traffic := n }, ade := a, plc := p, sched := x, links := l } ∧
    ∀ e ∈ p.plan, e ∈ s.plc.plan
  unwinds : s.Unwinds t
  idles : s.unitLocked u = false → t.Idles u
  empties : s.unitJoined u = false → (t.sched.staging.get u).held = 0 ∧ (t.sched.staging.get u).record = none ∧
    ((s.sched.staging.get u).held ≠ 0 → ∀ j l, (t.sched.lane j l).boundTo u = false)
  capacity : t.sched.capacity = t.capacityNow
  credit : (s.sched.staging.get u).held = 0 → t.sched.credit = (s.sched.formed t.capacityNow).credit

theorem State.releaseUnit_released (s : State) (u : UnitId) : s.Released (s.releaseUnit u) u := by
  have w1 := (s.releaseHold_receives u).unwinds
  obtain ⟨r, n, l1, e1⟩ := (s.releaseHold_receives u).only
  have w2 := (s.releaseHold u).unlockUnit_unwinds u
  obtain ⟨a, p, x, l2, e2, plan, formed⟩ := (s.releaseHold u).unlockUnit_shape u
  have w3 := ((s.releaseHold u).unlockUnit u).unlockService_unwinds u
  obtain ⟨x3, l3, e3⟩ := ((s.releaseHold u).unlockUnit u).unlockService_only u
  have w4 := (((s.releaseHold u).unlockUnit u).unlockService u).closeIfTaken_unwinds u
  obtain ⟨g, e4⟩ := (((s.releaseHold u).unlockUnit u).unlockService u).closeIfTaken_sched u
  have now : (s.releaseUnit u).capacityNow = ((s.releaseHold u).unlockUnit u).capacityNow := by
    rw [State.releaseUnit, e4, e3]
    rfl
  have sched1 : (s.releaseHold u).sched = s.sched := by rw [e1]
  have sched2 : ((s.releaseHold u).unlockUnit u).sched = x := by rw [e2]
  rw [sched1] at formed
  have staging : ((s.releaseHold u).unlockUnit u).sched.staging = s.sched.staging := by
    rw [sched2]
    rcases formed with e | e
    · rw [e]
    · rw [e]
      rfl
  have once : ((s.releaseHold u).unlockUnit u).sched.formed ((s.releaseHold u).unlockUnit u).capacityNow =
      s.sched.formed ((s.releaseHold u).unlockUnit u).capacityNow := by
    rw [sched2]
    rcases formed with e | e
    · rw [e]
    · rw [e, Sched.formed_formed]
  refine ⟨⟨r, n, a, p, { x3 with staging := g }, l3, ?_, ?_⟩, ((w1.trans w2).trans w3).trans w4, fun out => ?_, fun out => ?_, ?_,
    fun bare => ?_⟩
  · rw [State.releaseUnit, e4, e3, e2, e1]
  · simpa [e1] using plan
  · exact ((State.unlockUnit_idles ((w1.locked u).trans out)).unwinds w3).unwinds w4
  · have out2 := ((w1.trans w2).joined u).trans out
    have out3 := (w3.joined u).trans out2
    have service : ((s.releaseHold u).unlockUnit u).unlockService u = ((s.releaseHold u).unlockUnit u).loseUnit u := by
      rw [State.unlockService, if_neg (by simp [out2])]
    obtain ⟨held, lanes⟩ := State.loseUnit_empties out2
    rw [staging] at lanes
    rw [← service] at held lanes
    exact ⟨(w4.sched u out3).held held, State.closeIfTaken_closed out3,
      fun some j l => (w4.sched u out3).lanes j l (lanes some j l)⟩
  · rw [now, State.releaseUnit, e4]
    show (((s.releaseHold u).unlockUnit u).unlockService u).sched.capacity = _
    rw [State.unlockService_capacity, e3]
    rfl
  · rw [now, State.releaseUnit, e4]
    show (((s.releaseHold u).unlockUnit u).unlockService u).sched.credit = _
    rw [State.unlockService_bare (by rw [staging]; exact bare), State.formCapacity_sched, once]

end Sys2Proof.Machine
end

section
/-! SUPPORT. The hop when a carrier has left LOCKED, and the whole of a loss of lock (R6, R7, R31, R38). -/

namespace Sys2Proof.Machine

/-! ## HOP_DOWN (R7) -/

/-- The hop is down: empty plan, no credit, no role conflict, no view of the peer, no substitution (R7, R101, R138, R143). -/
def State.HopIsDown (t : State) : Prop :=
  t.plc.plan = [] ∧ t.sched.credit = .of 0 ∧ t.htu.conflict = false ∧ t.htu.recovery = 0 ∧ t.peer = .unknown ∧ t.cpm.subs = [] ∧
    t.cpm.peerHold = none ∧ t.cpm.peerLimit = none

theorem State.planHopDown_unwinds (s : State) : s.Unwinds s.planHopDown := by
  refine (s.removeEntries_unwinds fun _ => true).trans ?_
  exact .of (a := (s.removeEntries _).ade) (c := (s.removeEntries _).cpm) (x := (s.removeEntries _).sched)
    (r := (s.removeEntries _).rxa) (l := (s.removeEntries _).links) rfl (.same rfl rfl) (fun _ h => h) (fun _ h => h) (fun _ h => h)
    (fun _ h => h) fun v _ => .refl v _

theorem State.planHopDown_plan (s : State) : s.planHopDown.plc.plan = [] := by
  obtain ⟨a, d, l, e, -⟩ := s.removeEntries_shape fun _ => true
  rw [State.planHopDown, e]
  exact List.filter_eq_nil_iff.2 fun _ _ => by simp

theorem State.viewHopDown_unwinds (s : State) : s.Unwinds s.viewHopDown :=
  ⟨⟨⟨rfl, rfl, rfl, rfl, rfl, rfl⟩, rfl, rfl, rfl, rfl, rfl⟩, rfl, rfl, rfl, rfl, rfl, rfl, rfl, fun _ => rfl, .same rfl rfl,
    fun _ h => h, fun _ h => h, fun _ h => h, fun _ h => .inl h, fun v _ => .refl v _⟩

/-- The pool at HOP_DOWN (R138). -/
theorem State.poolHopDown_shape (s : State) : ∃ l, s.poolHopDown = { s with
    cpm := { s.cpm with acting := s.settings.roles.map Role.acting, subs := [], peerHold := none, peerLimit := none, backoff := .of 0,
                        backlogRun := 0 }, links := l } ∧ s.Notifies s.poolHopDown := by
  unfold State.poolHopDown
  dsimp only
  split
  · exact ⟨_, rfl, (State.raiseAll_notifies _ _).after rfl rfl⟩
  · exact ⟨_, rfl, .same rfl rfl⟩

theorem State.poolHopDown_unwinds (s : State) : s.Unwinds s.poolHopDown := by
  obtain ⟨l, e, notifies⟩ := s.poolHopDown_shape
  exact .of (a := s.ade) (p := s.plc) (x := s.sched) (r := s.rxa) e notifies (fun _ h => h) (fun _ h => h) (fun _ h => h)
    (fun _ h => h) fun v _ => .refl v _

theorem State.creditHopDown_unwinds (s : State) : s.Unwinds s.creditHopDown :=
  State.rescheduled_unwinds rfl fun _ _ => .same rfl rfl

theorem State.goHopDown_unwinds (s : State) : s.Unwinds s.goHopDown :=
  ((((s.planHopDown_unwinds.trans (State.viewHopDown_unwinds _)).trans (State.poolHopDown_unwinds _)).trans
    (State.formCapacity_unwinds _)).trans (State.creditHopDown_unwinds _)).trans (State.raiseAll_unwinds _ _)

theorem State.goHopDown_down (s : State) : s.goHopDown.HopIsDown := by
  obtain ⟨l, pool, -⟩ := s.planHopDown.viewHopDown.poolHopDown_shape
  obtain ⟨l', formed⟩ := s.planHopDown.viewHopDown.poolHopDown.formCapacity_shape
  rw [State.goHopDown, formed, pool]
  exact ⟨s.planHopDown_plan, rfl, rfl, rfl, rfl, rfl, rfl, rfl⟩

theorem State.goHopDown_capacity (s : State) : s.goHopDown.sched.capacity = s.goHopDown.capacityNow := by
  have last : ∀ x : State, (x.creditHopDown.raiseAll flagHop).capacityNow = x.capacityNow ∧
      (x.creditHopDown.raiseAll flagHop).sched.capacity = x.sched.capacity := fun x =>
    ⟨State.capacityNow_congr rfl (fun _ => rfl) rfl rfl rfl, rfl⟩
  rw [State.goHopDown, (last _).1, (last _).2, State.formCapacity_capacity, State.formCapacity_now]

/-- HOP_DOWN leaves the anchor and the service queues as they are (R7, R14). -/
theorem State.goHopDown_keeps (s : State) : s.goHopDown.htu.anchor = s.htu.anchor ∧ s.goHopDown.scu = s.scu := by
  obtain ⟨l, pool, -⟩ := s.planHopDown.viewHopDown.poolHopDown_shape
  obtain ⟨l', formed⟩ := s.planHopDown.viewHopDown.poolHopDown.formCapacity_shape
  obtain ⟨a, d, l'', removed, -⟩ := s.removeEntries_shape fun _ => true
  have plan : s.planHopDown.htu = s.htu ∧ s.planHopDown.scu = s.scu := by
    rw [State.planHopDown, State.setPlc_htu, State.setPlc_scu, removed]
    exact ⟨rfl, rfl⟩
  have view : ∀ x : State, x.viewHopDown.htu.anchor = x.htu.anchor ∧ x.viewHopDown.scu = x.scu := fun _ => ⟨rfl, rfl⟩
  have last : ∀ x : State, (x.creditHopDown.raiseAll flagHop).htu = x.htu ∧ (x.creditHopDown.raiseAll flagHop).scu = x.scu :=
    fun _ => ⟨rfl, rfl⟩
  rw [State.goHopDown, (last _).1, (last _).2, formed, pool, (view _).1, (view _).2, plan.1, plan.2]
  exact ⟨rfl, rfl⟩

/-! ## The anchor (R6) -/

/-- The part with its anchor replaced. -/
def State.anchoredAt (s : State) (a : Option CarrierId) : State := { s with htu := { s.htu with anchor := a } }

theorem State.anchoredAt_unwinds (s : State) (a : Option CarrierId) : s.Unwinds (s.anchoredAt a) :=
  ⟨⟨⟨rfl, rfl, rfl, rfl, rfl, rfl⟩, rfl, rfl, rfl, rfl, rfl⟩, rfl, rfl, rfl, rfl, rfl, rfl, rfl, fun _ => rfl, .same rfl rfl,
    fun _ h => h, fun _ h => h, fun _ h => h, fun _ h => .inl h, fun v _ => .refl v _⟩

theorem State.lowestLocked_congr {s t : State} (settings : t.settings = s.settings) (clc : t.clc = s.clc) :
    t.lowestLocked = s.lowestLocked := by
  simp only [State.lowestLocked, State.role, State.isLocked, State.link, settings, clc]

section
variable {s : State} {a : CarrierId} (old : s.htu.anchor = some a)
include old

theorem State.reanchor_up {b : CarrierId} (new : s.lowestLocked = some b) : s.reanchor = s.anchoredAt (some b) := by
  rw [State.reanchor, old, new]
  rfl

theorem State.reanchor_down (new : s.lowestLocked = none) : s.reanchor = (s.anchoredAt none).goHopDown := by
  rw [State.reanchor, old, new]
  rfl

theorem State.reanchor_unwinds : s.Unwinds s.reanchor := by
  cases new : s.lowestLocked with
  | some b =>
    rw [State.reanchor_up old new]
    exact s.anchoredAt_unwinds _
  | none =>
    rw [State.reanchor_down old new]
    exact (s.anchoredAt_unwinds _).trans (State.goHopDown_unwinds _)

theorem State.reanchor_anchor : s.reanchor.htu.anchor = s.lowestLocked := by
  cases new : s.lowestLocked with
  | some b =>
    rw [State.reanchor_up old new]
    rfl
  | none =>
    rw [State.reanchor_down old new, (State.goHopDown_keeps _).1]
    rfl

theorem State.reanchor_scu : s.reanchor.scu = s.scu := by
  cases new : s.lowestLocked with
  | some b =>
    rw [State.reanchor_up old new]
    rfl
  | none =>
    rw [State.reanchor_down old new, (State.goHopDown_keeps _).2]
    rfl

theorem State.reanchor_capacity (formed : s.sched.capacity = s.capacityNow) : s.reanchor.sched.capacity = s.reanchor.capacityNow := by
  cases new : s.lowestLocked with
  | some b =>
    rw [State.reanchor_up old new]
    exact formed
  | none =>
    rw [State.reanchor_down old new]
    exact State.goHopDown_capacity _

end

/-! ## The requests of a loss of lock (R134, R136) -/

/-- State `w` is what an event makes of `s` up to the moment when carrier `k` has left LOCKED and nothing has been handed on. -/
structure State.Unlocking (s w : State) (k : CarrierId) : Prop where
  held : s.Held w
  htu : w.htu = { s.htu with lastHeader := w.htu.lastHeader }
  level : w.pbu.level = s.pbu.level
  cpm : w.cpm = { s.cpm with traffic := w.cpm.traffic }
  plan : ∀ e ∈ w.plc.plan, e ∈ s.plc.plan
  staging : w.sched.staging = s.sched.staging
  sched : s.sched.capacity = s.capacityNow → w.sched = s.sched
  notifies : s.Notifies w
  unlocked : w.isLocked k = false
  others : ∀ j, j ≠ k → w.isLocked j = s.isLocked j ∧ w.isJoined j = s.isJoined j

theorem State.backoffWithin_congr {s t : State} (settings : t.settings = s.settings) (backoff : t.cpm.backoff = s.cpm.backoff)
    {n : Nat} {k : CarrierId} : t.backoffWithin n k ↔ s.backoffWithin n k := by
  simp only [State.backoffWithin, State.unitOf, State.role, settings, backoff]

/-- The part, its hop still up, when the requests of a loss of lock are made: `x` differs from the unlocking part `w` in nothing that they
read but the dwell counts. -/
structure State.AtRequests (w x : State) (k : CarrierId) : Prop where
  settings : x.settings = w.settings
  clc : x.clc = w.clc
  up : x.htu.anchor ≠ none
  conflict : x.htu.conflict = w.htu.conflict
  plan : ∀ e ∈ x.plc.plan, e ∈ w.plc.plan
  acting : x.cpm.acting = w.cpm.acting
  backoff : x.cpm.backoff = w.cpm.backoff
  subs : x.cpm.subs = w.cpm.subs.map fun r => if r.t = k then { r with dwell := 0 } else r

section
variable {s w x : State} {k : CarrierId} (h : s.Unlocking w k) (at_ : w.AtRequests x k)
include h at_

theorem State.AtRequests.settings_eq : x.settings = s.settings := at_.settings.trans h.held.settings

theorem State.AtRequests.subs_eq : x.cpm.subs = s.cpm.subs.map fun r => if r.t = k then { r with dwell := 0 } else r := by
  rw [at_.subs, h.cpm]

theorem State.AtRequests.free (substitutes : s.substitutes) : x.Free := by
  obtain ⟨⟨-, calm, open_⟩, lead, promotion⟩ := substitutes
  have settings := at_.settings_eq h
  refine ⟨at_.up, ?_, fun e he => open_ e (h.plan e (at_.plan e he)), by rw [settings, lead], by rw [settings, promotion]⟩
  rw [at_.conflict, h.htu]
  exact calm

theorem State.AtRequests.backoffWithin {n : Nat} {j : CarrierId} : x.backoffWithin n j ↔ s.backoffWithin n j :=
  State.backoffWithin_congr (at_.settings_eq h) (by rw [at_.backoff, h.cpm])

/-- The record in which the carrier replaces another is not the carrier's own, and goes through the clearing of dwell counts unchanged;
every other record of the carrier is out of the question (R136). -/
theorem State.AtRequests.asksRevert (substitutes : s.substitutes) (able : s.backoffWithin 0 k) {r : Substitution} (mem : r ∈ s.cpm.subs)
    (replaces : r.s = k) (sole : ∀ q ∈ s.cpm.subs, q.s = k → q = r) (locked : x.isLocked r.t = true) (able' : s.backoffWithin 0 r.t) :
    (x.requestRevertsOf k).Asked (.revert k r.t) := by
  have unlocked : x.isLocked k = false := (State.isLocked_congr at_.clc k).trans h.unlocked
  have other : r.t ≠ k := by
    rintro e
    rw [e, unlocked] at locked
    cases locked
  subst replaces
  refine State.requestRevertsOf_asked (at_.free h substitutes) ?_ (.inl rfl) ?_ ((at_.backoffWithin h).2 able)
    ((at_.backoffWithin h).2 able') fun q hq names differs => ?_
  · rw [at_.subs_eq h]
    exact List.mem_map.2 ⟨r, mem, if_neg other⟩
  · simp [State.revertNow, unlocked, locked]
  · rw [at_.subs_eq h] at hq
    obtain ⟨p, hp, rfl⟩ := List.mem_map.1 hq
    split at names
    · rename_i own
      simp [State.revertNow, own, unlocked]
    · rename_i own
      rw [if_neg own] at differs
      exact absurd (sole p hp (names.resolve_right own)) differs

/-- No reversion is wanted of a carrier that replaces none and is not LOCKED (R136). -/
theorem State.AtRequests.noRevert (replaces : ∀ r ∈ s.cpm.subs, r.s ≠ k) : x.requestRevertsOf k = x := by
  refine State.requestRevertsOf_unwanted fun q hq names => ?_
  have unlocked : x.isLocked k = false := (State.isLocked_congr at_.clc k).trans h.unlocked
  rw [at_.subs_eq h] at hq
  obtain ⟨p, hp, rfl⟩ := List.mem_map.1 hq
  split at names
  · rename_i own
    simp [State.revertNow, own, unlocked]
  · rename_i own
    exact absurd (names.resolve_right own) (replaces p hp)

/-- The carrier's promotion is asked for at its loss of lock (R134). -/
theorem State.AtRequests.asksPromote (substitutes : s.substitutes) (able : s.backoffWithin 0 k)
    (acting : s.cpm.acting.get k = some .traffic) (single : s.members k = [k]) (replaces : ∀ r ∈ s.cpm.subs, r.s ≠ k)
    (few : s.cpm.subs.length < 2) (parked : x.link k ≠ .parked) {c : CarrierId} (stands : s.standsBy 0 c)
    (first : ∀ j < c, ¬s.standsBy 0 j) : (x.requestPromote k).Asked (.promote c k) := by
  have acting_eq : x.cpm.acting = s.cpm.acting := by rw [at_.acting, h.cpm]
  have failed : (x.link k).failed = true := by
    have unlocked : x.link k ≠ .locked := by
      have e := (State.isLocked_congr at_.clc k).trans h.unlocked
      simpa [State.isLocked] using e
    cases hl : x.link k <;> simp_all [LinkState.failed]
  have standing : ∀ j, x.standsBy 0 j ↔ s.standsBy 0 j := by
    intro j
    unfold State.standsBy
    rw [acting_eq, State.members_congr (at_.settings_eq h), at_.backoffWithin h]
    by_cases own : j = k
    · simp [own, acting]
    · rw [State.isJoined_congr at_.clc, (h.others j own).2]
  refine State.requestPromote_asked (at_.free h substitutes) (by rw [acting_eq, acting])
    ((State.members_congr (at_.settings_eq h) k).trans single) (fun r hr => ?_) ?_ failed ((at_.backoffWithin h).2 able)
    ((standing c).2 stands) fun j hj => mt (standing j).1 (first j hj)
  · rw [at_.subs_eq h] at hr
    obtain ⟨p, hp, rfl⟩ := List.mem_map.1 hr
    split <;> exact replaces p hp
  · rw [at_.subs_eq h, List.length_map]
    exact few

end

end Sys2Proof.Machine
end

section
/-! A loss of lock as a whole (R31, R38): what the statements say when a carrier leaves LOCKED. -/

namespace Sys2Proof.Machine

/-- Unit and hop when carrier `k` of unit `u` has left LOCKED, before the requests (R38; log 10). -/
def State.afterHop (w : State) (k : CarrierId) (u : UnitId) : State := ((w.releaseUnit u).reanchor).clearDwell k

/-- The part at the end of an event in which carrier `k` has left LOCKED as `w` (R31, R38). -/
def State.afterLoss (w : State) (k : CarrierId) : State := (w.afterUnlock k).settleCheck.startTransmitters

theorem State.unitOf_congr {s t : State} (settings : t.settings = s.settings) (k : CarrierId) : t.unitOf k = s.unitOf k := by
  simp only [State.unitOf, State.role, settings]

section
variable {s w : State} {k : CarrierId} {u : UnitId} {a : CarrierId}

theorem State.afterUnlock_eq (unit : w.unitOf k = some u) :
    w.afterUnlock k = ((w.afterHop k u).requestRevertsOf k).requestPromote k := by
  rw [State.afterUnlock, unit]
  rfl

/-- The requests of a loss of lock (R134, R136). -/
theorem State.afterHop_requests (unit : w.unitOf k = some u) : (w.afterHop k u).Requests (w.afterUnlock k) := by
  rw [State.afterUnlock_eq unit]
  exact (State.requestRevertsOf_requests _ k).trans (State.requestPromote_requests _ k)

/-- The event's end changes the settling indication and the links only. -/
theorem State.close_shape (r : State) :
    ∃ b l, r.settleCheck.startTransmitters = { r with pbu := { r.pbu with settling := b }, links := l } := by
  obtain ⟨b, l, e⟩ := r.settleCheck_only
  rw [e]
  exact ⟨b, _, rfl⟩

theorem State.HopIsDown.clearDwell {t : State} (h : t.HopIsDown) (k : CarrierId) : (t.clearDwell k).HopIsDown := by
  obtain ⟨plan, credit, conflict, recovery, peer, subs, hold, limit⟩ := h
  exact ⟨plan, credit, conflict, recovery, peer, by simp [State.clearDwell, subs], hold, limit⟩

theorem State.HopIsDown.close {t : State} (h : t.HopIsDown) : t.settleCheck.startTransmitters.HopIsDown := by
  obtain ⟨b, l, e⟩ := t.close_shape
  rw [e]
  exact h

/-- Between `x` and `t` nothing has changed that decides the hop and its capacity. -/
structure State.Closes (x t : State) : Prop where
  settings : t.settings = x.settings
  clc : t.clc = x.clc
  htu : t.htu = x.htu
  cpm : t.cpm = x.cpm
  sched : t.sched = x.sched
  draining : t.plc.draining = x.plc.draining
  profile : t.plc.txProfile = x.plc.txProfile

theorem State.Closes.now {x t : State} (h : x.Closes t) : t.capacityNow = x.capacityNow :=
  State.capacityNow_congr h.settings (State.isJoined_congr h.clc) (congrArg Cpm.acting h.cpm) h.draining h.profile

/-- Behind unit and hop only requests and the event's end follow. -/
theorem State.afterLoss_closes (unit : w.unitOf k = some u) : (w.afterHop k u).Closes (w.afterLoss k) := by
  obtain ⟨b, l, e⟩ := (w.afterUnlock k).close_shape
  obtain ⟨⟨c, es, n, l', e', -⟩, -⟩ := State.afterHop_requests unit
  rw [State.afterLoss, e, e']
  exact ⟨rfl, rfl, rfl, rfl, rfl, rfl, rfl⟩

theorem State.clearDwell_now (s : State) (k : CarrierId) : (s.clearDwell k).capacityNow = s.capacityNow :=
  State.capacityNow_congr rfl (fun _ => rfl) rfl rfl rfl

theorem State.anchoredAt_now (s : State) (a : Option CarrierId) : (s.anchoredAt a).capacityNow = s.capacityNow :=
  State.capacityNow_congr rfl (fun _ => rfl) rfl rfl rfl

section
variable (old : w.htu.anchor = some a)
include old

theorem State.releaseUnit_anchor (u : UnitId) : (w.releaseUnit u).htu.anchor = some a := by
  obtain ⟨⟨_, _, _, _, _, _, e, -⟩, -⟩ := w.releaseUnit_released u
  rw [e]
  exact old

theorem State.releaseUnit_afterHop (k : CarrierId) (u : UnitId) : (w.releaseUnit u).Unwinds (w.afterHop k u) :=
  (State.reanchor_unwinds (State.releaseUnit_anchor old u)).trans (State.clearDwell_unwinds _ k)

theorem State.releaseUnit_afterLoss (unit : w.unitOf k = some u) : (w.releaseUnit u).Unwinds (w.afterLoss k) :=
  (((State.releaseUnit_afterHop old k u).trans (State.afterHop_requests unit).unwinds).trans (State.settleCheck_unwinds _)).trans
    (State.startTransmitters_unwinds _)

theorem State.afterLoss_unwinds (unit : w.unitOf k = some u) : w.Unwinds (w.afterLoss k) :=
  (w.releaseUnit_released u).unwinds.trans (State.releaseUnit_afterLoss old unit)

theorem State.afterHop_anchor (k : CarrierId) (u : UnitId) : (w.afterHop k u).htu.anchor = w.lowestLocked := by
  have released := (w.releaseUnit_released u).unwinds
  rw [State.afterHop, State.clearDwell_htu, State.reanchor_anchor (State.releaseUnit_anchor old u),
    State.lowestLocked_congr released.held.settings released.clc]

/-- The anchor is formed anew (R6). -/
theorem State.afterLoss_anchor (unit : w.unitOf k = some u) : (w.afterLoss k).htu.anchor = w.lowestLocked := by
  rw [(State.afterLoss_closes unit).htu, State.afterHop_anchor old]

/-- The service queue of a carrier that is not LOCKED gets nothing while a loss of lock is handed on (R14, R83). -/
theorem State.afterLoss_queue (unit : w.unitOf k = some u) (unlocked : w.isLocked k = false) :
    ((w.afterLoss k).scu.get k).queue = (w.scu.get k).queue := by
  obtain ⟨⟨_, _, _, _, _, _, released, -⟩, -⟩ := w.releaseUnit_released u
  have scu : (w.afterHop k u).scu = w.scu := by
    rw [State.afterHop, State.clearDwell_scu, State.reanchor_scu (State.releaseUnit_anchor old u), released]
  have other : (w.afterHop k u).htu.anchor ≠ some k := by
    rw [State.afterHop_anchor old]
    intro found
    have locked := List.find?_some found
    simp [unlocked] at locked
  obtain ⟨_, _, closed⟩ := (w.afterUnlock k).close_shape
  rw [State.afterLoss, closed, ← scu]
  exact (State.afterHop_requests unit).queue k other

/-- C is the sum over the units in service (R140). -/
theorem State.afterLoss_capacity (unit : w.unitOf k = some u) : (w.afterLoss k).sched.capacity = (w.afterLoss k).capacityNow := by
  rw [(State.afterLoss_closes unit).now, (State.afterLoss_closes unit).sched, State.afterHop, State.clearDwell_sched,
    State.clearDwell_now]
  exact State.reanchor_capacity (State.releaseUnit_anchor old u) (w.releaseUnit_released u).capacity

/-- The hop without an anchor (R7). -/
theorem State.afterLoss_down (unit : w.unitOf k = some u) (down : w.lowestLocked = none) : (w.afterLoss k).HopIsDown := by
  have released := (w.releaseUnit_released u).unwinds
  have lost : (w.releaseUnit u).lowestLocked = none :=
    (State.lowestLocked_congr released.held.settings released.clc).trans down
  have hop : w.afterHop k u = (((w.releaseUnit u).anchoredAt none).goHopDown).clearDwell k := by
    rw [State.afterHop, State.reanchor_down (State.releaseUnit_anchor old u) lost]
  have quiet : w.afterUnlock k = w.afterHop k u := (State.afterHop_requests unit).down (by
    rw [hop, State.clearDwell_htu, (State.goHopDown_keeps _).1]
    rfl)
  rw [State.afterLoss, quiet, hop]
  exact ((State.goHopDown_down _).clearDwell k).close

section
variable {b : CarrierId} (new : w.lowestLocked = some b)
include new

theorem State.afterHop_up (k : CarrierId) (u : UnitId) : w.afterHop k u = ((w.releaseUnit u).anchoredAt (some b)).clearDwell k := by
  have released := (w.releaseUnit_released u).unwinds
  rw [State.afterHop, State.reanchor_up (State.releaseUnit_anchor old u)
    ((State.lowestLocked_congr released.held.settings released.clc).trans new)]

/-- While the hop stays up and the unit held no block, C is formed once and nothing else touches a credit (R140, R143). -/
theorem State.afterLoss_credit (unit : w.unitOf k = some u) (bare : (w.sched.staging.get u).held = 0) :
    (w.afterLoss k).sched.credit = (w.sched.formed (w.afterLoss k).capacityNow).credit := by
  rw [(State.afterLoss_closes unit).now, (State.afterLoss_closes unit).sched, State.afterHop_up old new, State.clearDwell_now,
    State.clearDwell_sched, State.anchoredAt_now]
  exact (w.releaseUnit_released u).credit bare

theorem State.afterHop_atRequests (k : CarrierId) (u : UnitId) : w.AtRequests (w.afterHop k u) k := by
  obtain ⟨⟨_, _, _, _, _, _, e, plan⟩, -⟩ := w.releaseUnit_released u
  rw [State.afterHop_up old new, e]
  exact ⟨rfl, rfl, nofun, rfl, plan, rfl, rfl, rfl⟩

end
end

/-! ## The words of the statements -/

theorem State.Unlocking.unitOf (h : s.Unlocking w k) (unit : s.unitOf k = some u) : w.unitOf k = some u :=
  (State.unitOf_congr h.held.settings k).trans unit

theorem State.Unlocking.anchor (h : s.Unlocking w k) (old : s.htu.anchor = some a) : w.htu.anchor = some a := by
  rw [h.htu]
  exact old

variable (h : s.Unlocking w k) (unit : s.unitOf k = some u) (old : s.htu.anchor = some a)
include h unit old

/-- The requests for promotion and reversion at a loss of lock (R134, R136). -/
theorem State.Unlocking.asks : s.AsksAtLoss (w.afterLoss k) k := by
  intro substitutes up able
  have unit' := h.unitOf unit
  have old' := h.anchor old
  rw [State.afterLoss_anchor old' unit'] at up
  obtain ⟨b, new⟩ := Option.ne_none_iff_exists'.1 up
  have at_ := State.afterHop_atRequests old' new k u
  have eq := State.afterUnlock_eq unit'
  have clc : (w.afterLoss k).clc = (w.afterHop k u).clc :=
    ((State.afterLoss_unwinds old' unit').clc).trans at_.clc.symm
  obtain ⟨_, _, closed⟩ := (w.afterUnlock k).close_shape
  have asked : ∀ c, (w.afterUnlock k).Asked c → (w.afterLoss k).Asked c := fun c asked =>
    asked.congr (by rw [State.afterLoss, closed]) (by rw [State.afterLoss, closed]) (by rw [State.afterLoss, closed])
  refine ⟨fun r mem replaces sole locked able' => asked _ ?_, fun acting single replaces few parked c stands first => asked _ ?_⟩
  · rw [State.isLocked_congr clc] at locked
    rw [eq]
    exact (at_.asksRevert h substitutes able mem replaces sole locked able').requests (State.requestPromote_requests _ k)
  · rw [State.link, clc] at parked
    rw [eq, at_.noRevert h replaces]
    exact at_.asksPromote h substitutes able acting single replaces few parked stands first

/-- What the statements say of a carrier that leaves LOCKED. -/
theorem State.Unlocking.lostLocked : s.LostLocked (w.afterLoss k) k := by
  have unit' := h.unitOf unit
  have old' := h.anchor old
  have released := w.releaseUnit_released u
  have loss := State.afterLoss_unwinds old' unit'
  have later := State.releaseUnit_afterLoss old' unit'
  have anchor := State.afterLoss_anchor old' unit'
  have held := h.held.trans loss.held
  have capacity : (w.afterLoss k).sched.capacity = (w.afterLoss k).hopCapacity :=
    (State.afterLoss_capacity old' unit').trans (State.capacityNow_eq _)
  refine ⟨?_, ?_, ?_, ?_, ?_, ?_, ?_, h.asks unit old, held.settings, held.askTag, held.freeCount, held.pending, held.running, held.due,
    loss.level.trans h.level, held.effective⟩
  · rw [anchor]
    exact (State.lowestLocked_congr loss.held.settings loss.clc).symm
  · rw [loss.hsn, h.htu]
  · rw [loss.frame, h.htu]
  · intro v own out
    cases unit.symm.trans own
    rw [loss.locked] at out
    exact (released.idles out).unwinds later
  · intro v own out
    cases unit.symm.trans own
    rw [loss.joined] at out
    obtain ⟨empty, closed, lanes⟩ := released.empties out
    have leaves := later.sched u ((released.unwinds.joined u).trans out)
    rw [h.staging] at lanes
    exact ⟨leaves.held empty, leaves.record closed, fun some j l => leaves.lanes j l (lanes some j l)⟩
  · intro down
    rw [anchor] at down
    exact State.afterLoss_down old' unit' down
  · intro law
    have sched := h.sched (law.2.trans s.capacityNow_eq.symm)
    refine ⟨capacity, fun changed => (h.notifies.trans loss.notifies).capacity (by rwa [capacity]), fun bare up => ?_⟩
    rw [anchor] at up
    obtain ⟨b, new⟩ := Option.ne_none_iff_exists'.1 up
    rw [State.afterLoss_credit old' new unit' (by rw [h.staging]; exact bare u unit), sched, Sched.formed, State.capacityNow_eq,
      rescale_eq]

end

end Sys2Proof.Machine
end

section
/-! A carrier that leaves LOCKED, from the event that makes it do so (R31, R36): what the event may have done before, and the statement
about faults. -/

namespace Sys2Proof.Machine

/-! ## Up to the change of link state -/

/-- What an event may make of `s` before a carrier leaves LOCKED: links, joins, hop, levels, pool requests and staging stay, the plan
loses entries only, C stays the sum over the units in service where it was. -/
structure State.Approaches (s z : State) : Prop where
  held : s.Held z
  htu : z.htu = { s.htu with lastHeader := z.htu.lastHeader }
  level : z.pbu.level = s.pbu.level
  cpm : z.cpm = { s.cpm with traffic := z.cpm.traffic }
  link : ∀ j, z.link j = s.link j
  joined : ∀ j, z.isJoined j = s.isJoined j
  plan : ∀ e ∈ z.plc.plan, e ∈ s.plc.plan
  staging : z.sched.staging = s.sched.staging
  now : z.capacityNow = s.capacityNow
  sched : s.sched.capacity = s.capacityNow → z.sched = s.sched
  notifies : s.Notifies z

theorem State.Approaches.trans {s z v : State} (h : s.Approaches z) (g : z.Approaches v) : s.Approaches v where
  held := h.held.trans g.held
  htu := by rw [g.htu, h.htu]
  level := g.level.trans h.level
  cpm := by rw [g.cpm, h.cpm]
  link j := (g.link j).trans (h.link j)
  joined j := (g.joined j).trans (h.joined j)
  plan e he := h.plan e (g.plan e he)
  staging := g.staging.trans h.staging
  now := g.now.trans h.now
  sched law := (g.sched (by rw [h.sched law, h.now, law])).trans (h.sched law)
  notifies := h.notifies.trans g.notifies

/-- Trackers, contexts, service queues, assembler, outputs and the latest header may change freely before a carrier leaves LOCKED. -/
theorem State.Approaches.of {s z : State} {f : Four Ftr} {a : Four Ade} {q : Four Scu} {r : Rxa} {n : Four Nat}
    {g : Four (Option (Hsn × FrameNo))} {l : Four Tli} {o : List Output}
    (shape : z = { s with ftr := f, ade := a, scu := q, rxa := r, cpm := { s.cpm with traffic := n },
                          htu := { s.htu with lastHeader := g }, links := l, out := o })
    (notifies : s.Notifies z) : s.Approaches z := by
  subst shape
  exact ⟨⟨⟨rfl, rfl, rfl, rfl, rfl, rfl⟩, rfl, rfl, rfl, rfl, rfl⟩, rfl, rfl, rfl, fun _ => rfl, fun _ => rfl, fun _ h => h, rfl,
    State.capacityNow_congr rfl (fun _ => rfl) rfl rfl rfl, fun _ => rfl, notifies⟩

theorem State.Receives.approaches {s z : State} (h : s.Receives z) : s.Approaches z := by
  obtain ⟨⟨r, n, l, e⟩, notifies⟩ := h
  exact .of (f := s.ftr) (a := s.ade) (q := s.scu) (g := s.htu.lastHeader) (o := s.out) e notifies

/-- The controller's own counts may change before a carrier leaves LOCKED. -/
theorem State.setClc_approaches (s : State) (k : CarrierId) {f : Clc → Clc} (link : ∀ c, (f c).link = c.link)
    (joined : ∀ c, (f c).joined = c.joined) : s.Approaches (s.setClc k f) := by
  have links : ∀ j, (s.setClc k f).link j = s.link j := fun j => by
    simp only [State.link, State.setClc_clc, Four.get_modify]
    split
    · exact link _
    · rfl
  have joins : ∀ j, (s.setClc k f).isJoined j = s.isJoined j := fun j => by
    rw [State.isJoined, State.isLocked, links, State.isJoined, State.isLocked, State.setClc_clc, Four.get_modify]
    split
    · rw [joined]
    · rfl
  exact ⟨s.setClc_held k f, rfl, rfl, rfl, links, joins, fun _ h => h, rfl, State.capacityNow_congr rfl joins rfl rfl rfl, fun _ => rfl,
    .same rfl rfl⟩

/-- The removal of profile entries takes no unit out of service (R71, R140). -/
theorem State.removeEntries_approaches (s : State) {p : Entry → Bool} (profile : ∀ e, p e = true → e.link? = none) :
    s.Approaches (s.removeEntries p) := by
  obtain ⟨a, d, l, e, -, -, kept⟩ := s.removeEntries_shape p
  have now : (s.removeEntries p).capacityNow = s.capacityNow := by
    rw [e]
    exact State.capacityNow_congr rfl (fun _ => rfl) rfl (kept fun e _ => profile e) rfl
  have notifies := s.removeEntries_notifies p
  have held := (s.removeEntries_only p).held
  rw [now] at e
  rw [e] at now notifies held ⊢
  refine ⟨held, rfl, rfl, rfl, fun _ => rfl, fun _ => rfl, fun _ h => List.mem_of_mem_filter h, rfl, now, fun law => ?_, notifies⟩
  show s.sched.formed s.capacityNow = s.sched
  rw [← law, Sched.formed_same]

/-- The controller of a carrier leaves LOCKED. -/
theorem State.Approaches.unlocking {s z : State} (h : s.Approaches z) (k : CarrierId) {c : Clc} (apart : c.link ≠ .locked) :
    s.Unlocking (z.moved k c) k where
  held := h.held.trans ⟨⟨rfl, rfl, rfl, rfl, rfl, rfl⟩, rfl, rfl, rfl, rfl, rfl⟩
  htu := h.htu
  level := h.level
  cpm := h.cpm
  plan := h.plan
  staging := h.staging
  sched := h.sched
  notifies := h.notifies.trans ((z.raiseAll_notifies flagCarrier).trans (.same rfl rfl))
  unlocked := by simp [State.isLocked, State.link, State.moved, apart]
  others j other := by
    have same : (z.moved k c).clc.get j = z.clc.get j := Four.get_set_of_ne _ _ other
    have locked : (z.moved k c).isLocked j = z.isLocked j := by rw [State.isLocked, State.link, same]; rfl
    refine ⟨by rw [locked, State.isLocked, h.link, State.isLocked], ?_⟩
    rw [← h.joined, State.isJoined, locked, same, State.isJoined]

/-! ## The whole event -/

/-- A carrier has left LOCKED as the controller state `c`, in an event that came to `z` before: the words of the statements, with the
fields that they fix beside. -/
structure State.Left (s z t : State) (k : CarrierId) (c : Clc) : Prop where
  lost : s.LostLocked t k
  clc : t.clc = z.clc.set k c
  ftr : t.ftr = if c.link = .acquire then z.ftr.modify k Ftr.clear else z.ftr
  out : t.out = z.out
  lastHeader : t.htu.lastHeader = z.htu.lastHeader
  errors : ∀ j, (t.scu.get j).errors = (z.scu.get j).errors
  queue : c.link.silent = true → (t.scu.get k).queue = []
  carrier : ∀ j, (t.links.get j).raised &&& flagCarrier = flagCarrier

theorem State.left_changeLink {s z : State} {k : CarrierId} {u : UnitId} {a : CarrierId} {f : Clc → Clc} (h : s.Approaches z)
    (link : s.link k = .locked) (unit : s.unitOf k = some u) (old : s.htu.anchor = some a)
    (apart : (f (z.clc.get k)).link ≠ .locked) :
    s.Left z (z.changeLink k f).startTransmitters k (f (z.clc.get k)) := by
  have unlocking := h.unlocking k apart
  have unit' := unlocking.unitOf unit
  have old' := unlocking.anchor old
  have loss := State.afterLoss_unwinds old' unit'
  rw [State.changeLink_fromLocked ((h.link k).trans link)]
  refine ⟨unlocking.lostLocked unit old, loss.clc, loss.ftr, loss.out, loss.lastHeader, fun j => (loss.errors j).trans ?_,
    fun silent => (State.afterLoss_queue old' unit' unlocking.unlocked).trans ?_, fun j => loss.notifies.keeps ?_⟩
  · show ((if _ then z.quiet k else z.scu).get j).errors = _
    split
    · simp only [State.quiet, Four.get_modify]
      split <;> rfl
    · rfl
  · show ((if _ then z.quiet k else z.scu).get k).queue = _
    rw [if_pos silent]
    simp [State.quiet]
  · exact z.raiseAll_raised flagCarrier j

/-! ## Faults (R36) -/

theorem State.unitOf_provisioned {s : State} {k : CarrierId} (role : s.role k ≠ .off) : ∃ u, s.unitOf k = some u := by
  unfold State.unitOf
  cases h : s.role k
  · exact absurd h role
  all_goals exact ⟨_, rfl⟩

/-- With a LOCKED carrier that is not OFF there is an anchor (R6). -/
theorem State.anchor_of_locked {s : State} {k : CarrierId} (anchored : s.htu.anchor = s.lowestLocked) (link : s.link k = .locked)
    (role : s.role k ≠ .off) : ∃ a, s.htu.anchor = some a := by
  rw [anchored, ← Option.isSome_iff_exists, State.lowestLocked, List.find?_isSome]
  exact ⟨k, mem_ids k, by simp [State.isLocked, link, role]⟩

theorem State.modemFault_up {s : State} {k : CarrierId} (link : s.link k ≠ .down) : s.modemFault k = s.faultCarrier k := if_neg link

/-- A carrier apart from LOCKED that is powered down (R36), in an event that has set outputs and expiries only. -/
theorem State.turned_fault {s : State} {k : CarrierId} (settled : s.settled) (was : s.link k ≠ .locked) (due : List Expiry) :
    s.Turned { s with out := [.modem k .powerDown], due := due }
      ((({ s with out := [], due := due } : State).faultCarrier k).startTransmitters) k (s.clc.get k).faulted :=
  State.turned_changeLink (f := Clc.fault) settled ⟨s.clc, s.cpm, s.pbu.level, _, due, rfl⟩ rfl was nofun

/-- Settles O13: the carrier's state before the fault decides, a LOCKED one by what a loss of lock hands on. -/
theorem faultPowersDown : Obligations.FaultPowersDown := by
  rintro k s ⟨running, settled⟩
  refine ⟨fun up was => ?_, fun due link count => ?_, fun link role anchored => ?_, fun link => ?_, fun due link latch count => ?_⟩
  · refine completes_event (f := fun s => s.modemFault k) rfl running ?_
    rw [State.modemFault_up (by exact up)]
    have turned := s.turned_fault settled was s.due
    exact ⟨turned.becomes, turned.silenced rfl rfl, turned.cpm, turned.due, turned.out⟩
  · refine completes_expiry rfl running due ?_
    have act : (s.atExpiry (.waking k)).wakingTimeout k = (s.atExpiry (.waking k)).faultCarrier k :=
      by
      rw [State.link] at link
      exact if_pos (by simp [State.atExpiry, State.link, wakingLimit, link, count])
    rw [runExpiry, act]
    have turned := s.turned_fault settled (fun h => by cases link.symm.trans h) (s.due.erase (.waking k))
    exact ⟨turned.becomes, turned.silenced rfl rfl, turned.cpm, turned.due, turned.out⟩
  · obtain ⟨u, unit⟩ := State.unitOf_provisioned role
    obtain ⟨a, old⟩ := State.anchor_of_locked anchored link role
    refine completes_event (f := fun s => s.modemFault k) rfl running ?_
    rw [State.modemFault_up (by rw [State.link] at link ⊢; simp [link])]
    have before : s.Approaches { s with out := [.modem k .powerDown] } :=
      .of (f := s.ftr) (a := s.ade) (q := s.scu) (r := s.rxa) (n := s.cpm.traffic) (g := s.htu.lastHeader) (l := s.links) rfl
        (.same rfl rfl)
    have left := State.left_changeLink (f := Clc.fault) before link unit old nofun
    exact ⟨left.clc, left.lost, left.ftr, left.queue rfl, left.out, left.carrier⟩
  · refine completes_event (f := fun s => s.modemFault k) rfl running ?_
    have act : ({ s with out := [] } : State).modemFault k = { s with
        out := [], clc := if (s.clc.get k).faultLatch then s.clc.modify k (fun c => { c with retryCount := 0 }) else s.clc } := by
      refine (if_pos link).trans ?_
      cases (s.clc.get k).faultLatch <;> rfl
    rw [act]
    exact State.settled_same settled rfl rfl
  · refine completes_expiry rfl running due ?_
    have act : (s.atExpiry (.retry k)).faultRetry k =
        ((s.atExpiry (.retry k)).command k .powerUp).changeLink k fun c => { c with link := .waking, wakingCount := 0 } :=
      by
      rw [State.link] at link
      exact if_pos (by simp [State.atExpiry, retryLimit, link, latch, count])
    rw [runExpiry, act]
    have turned := State.turned_changeLink (k := k) (f := fun c => { c with link := .waking, wakingCount := 0 }) settled
      ⟨s.clc, s.cpm, s.pbu.level, [.modem k .powerUp], s.due.erase (.retry k), rfl⟩ rfl (fun h => by cases link.symm.trans h) nofun
    exact ⟨turned.becomes, turned.silenced rfl rfl, turned.cpm, turned.due, turned.out⟩

end Sys2Proof.Machine
end

section
/-! Samples and received headers at the Carrier Link Controller (R11, R28, R31, R39): the loss of lock they bring about. -/

namespace Sys2Proof.Machine

/-! ## Samples at the Fade Tracker (R39–R50) -/

/-- The part once a sample is recorded, its short mean handed on and a switch of mode sent, before an emergency is tested (R39). -/
def State.sampled (s : State) (k : CarrierId) (x : SampleData) : State :=
  { s with ftr := s.ftr.set k ((s.ftr.get k).sampled x)
           ade := ((s.setFtr k (·.record x)).handShortMean k).ade
           out := s.out ++ x.switchSent k (s.ftr.get k).mode }

theorem sampleValid_of_inRange {x : SampleData} (h : x.inRange) : sampleValid x = true := by
  obtain ⟨upper, lower, output, errors, selectivity⟩ := h
  simp [sampleValid, upper, lower, output, errors, selectivity]

theorem sampleAligned_eq (x : SampleData) (m : Combiner) : sampleAligned x m = x.aligns m := by
  cases m <;> rfl

/-- The switch of mode that a sample calls for (R50). -/
theorem switchTo_cases (x : SampleData) (m : Combiner) :
    (switchTo m x = none ∧ x.modeAfter m = m) ∨ ∃ n, switchTo m x = some n ∧ x.modeAfter m = n ∧ n ≠ m := by
  cases m <;> cases hu : x.upperAligned <;> cases hl : x.lowerAligned <;> simp [switchTo, SampleData.modeAfter, hu, hl]

theorem State.handShortMean_eq (s : State) (k : CarrierId) : s.handShortMean k = { s with ade := (s.handShortMean k).ade } := by
  unfold State.handShortMean
  split <;> rfl

/-- The tracker after a sample that calls for no switch of mode (R39–R45). -/
theorem Ftr.sampled_still {f : Ftr} {x : SampleData} (mode : x.modeAfter f.mode = f.mode) : f.sampled x = f.record x := by
  simp only [Ftr.sampled, mode, if_pos, Ftr.record, sampleAligned_eq]
  rfl

/-- The tracker after a sample that switches the mode (R47, R50). -/
theorem Ftr.sampled_switched {f : Ftr} {x : SampleData} {n : Combiner} (mode : x.modeAfter f.mode = n) (differs : n ≠ f.mode) :
    f.sampled x = { f.record x with mode := n, dwell := 0 } := by
  simp only [Ftr.sampled, mode, if_neg differs, Ftr.record, sampleAligned_eq]
  rfl

theorem State.trackSample_eq {s : State} {k : CarrierId} {x : SampleData} (up : s.link k ≠ .down) :
    s.trackSample k x = (s.sampled k x).testEmergency k := by
  unfold State.trackSample
  dsimp only
  rw [State.handShortMean_eq]
  obtain ⟨still, mode⟩ | ⟨n, switch, mode, differs⟩ := switchTo_cases x (s.ftr.get k).mode
  · have same : s.sampled k x = { s.setFtr k (·.record x) with ade := ((s.setFtr k (·.record x)).handShortMean k).ade } := by
      simp only [State.sampled, SampleData.switchSent, mode, if_pos, Ftr.sampled_still mode, List.append_nil]
      rfl
    rw [still, same]
  · have switched : s.sampled k x =
        ({ s.setFtr k (·.record x) with ade := ((s.setFtr k (·.record x)).handShortMean k).ade } : State).setCombiner k n := by
      rw [State.setCombiner, if_neg (by exact up)]
      simp only [State.sampled, SampleData.switchSent, mode, if_neg differs, Ftr.sampled_switched mode differs]
      simp [State.setFtr, State.command, State.emit, Four.modify]
    rw [switch, switched]

/-! ## An emergency at a sample (R51–R54, R72) -/

theorem State.testEmergency_cases (s : State) (k : CarrierId) :
    s.testEmergency k = s ∨ ∃ u, s.isLocked k = true ∧ s.testEmergency k = s.enterDropping u := by
  unfold State.testEmergency State.emergency
  split
  · rename_i u _
    split
    · rename_i h
      dsimp only
      split
      · exact .inl rfl
      · exact .inr ⟨u, by simpa using (Bool.and_eq_true _ _ ▸ h : _ ∧ _).1, rfl⟩
    · exact .inl rfl
  · exact .inl rfl

/-- A carrier that is not LOCKED has no emergency (R51). -/
theorem State.testEmergency_unlocked {s : State} {k : CarrierId} (h : s.isLocked k = false) : s.testEmergency k = s := by
  obtain e | ⟨u, locked, -⟩ := s.testEmergency_cases k
  · exact e
  · cases h.symm.trans locked

theorem Entry.isRxOf_link {u : UnitId} {e : Entry} (h : e.isRxOf u = true) : e.link? = none :=
  Entry.isProfileOf_link (u := u) (by simp [h])

/-- Between `s` and `z` contexts have changed and profile entries have left the plan, as before a carrier leaves LOCKED. -/
def State.Adapts (s z : State) : Prop := s.Approaches z ∧ s.OnlyPlan z

theorem State.Approaches.refl (s : State) : s.Approaches s :=
  .of (f := s.ftr) (a := s.ade) (q := s.scu) (r := s.rxa) (n := s.cpm.traffic) (g := s.htu.lastHeader) (l := s.links) (o := s.out) rfl
    (.refl s)

theorem State.Adapts.refl (s : State) : s.Adapts s := ⟨.refl s, .refl s⟩

theorem State.Adapts.trans {s z v : State} (h : s.Adapts z) (g : z.Adapts v) : s.Adapts v := ⟨h.1.trans g.1, h.2.trans g.2⟩

theorem State.setAde_adapts (s : State) (u : UnitId) (f : Ade → Ade) : s.Adapts (s.setAde u f) :=
  ⟨.of (f := s.ftr) (q := s.scu) (r := s.rxa) (n := s.cpm.traffic) (g := s.htu.lastHeader) (l := s.links) (o := s.out) rfl
    (.same rfl rfl), ⟨_, s.plc, s.sched, s.links, rfl⟩⟩

theorem State.removeEntries_adapts (s : State) {p : Entry → Bool} (profile : ∀ e, p e = true → e.link? = none) :
    s.Adapts (s.removeEntries p) := ⟨s.removeEntries_approaches profile, s.removeEntries_only p⟩

/-- Entering DROPPING removes a profile entry and changes a context (R72). -/
theorem State.enterDropping_adapts (s : State) (u : UnitId) : s.Adapts (s.enterDropping u) :=
  (s.removeEntries_adapts fun _ => Entry.isRxOf_link).trans (State.setAde_adapts _ _ _)

theorem State.testEmergency_adapts (s : State) (k : CarrierId) : s.Adapts (s.testEmergency k) := by
  obtain e | ⟨u, -, e⟩ := s.testEmergency_cases k
  · rw [e]
    exact .refl s
  · rw [e]
    exact s.enterDropping_adapts u

/-- A sample, up to the controller's count of it. -/
theorem State.sampled_approaches (s : State) (k : CarrierId) (x : SampleData) : s.Approaches (s.sampled k x) :=
  .of (q := s.scu) (r := s.rxa) (n := s.cpm.traffic) (g := s.htu.lastHeader) (l := s.links) rfl (.same rfl rfl)

theorem State.trackSample_approaches {s : State} {k : CarrierId} {x : SampleData} (up : s.link k ≠ .down) :
    s.Approaches (s.trackSample k x) ∧ (s.sampled k x).OnlyPlan (s.trackSample k x) := by
  rw [State.trackSample_eq up]
  obtain ⟨approaches, only⟩ := (s.sampled k x).testEmergency_adapts k
  exact ⟨(s.sampled_approaches k x).trans approaches, only⟩

/-- The sample that loses the lock (R31). -/
theorem State.takeSample_locked {s : State} {k : CarrierId} {x : SampleData} (link : s.link k = .locked) (valid : x.inRange)
    (unaligned : x.aligns (s.ftr.get k).mode = false) (run : (s.clc.get k).unalignedRun = 3) :
    s.takeSample k x = ((s.trackSample k x).setClc k (·.sampleRuns false)).changeLink k Clc.loseLock := by
  have up : s.link k ≠ .down := by simp [link]
  obtain ⟨-, _, _, _, _, only⟩ := State.trackSample_approaches (x := x) up
  rw [State.takeSample, if_pos ⟨.inr link, sampleValid_of_inRange valid⟩, sampleAligned_eq, unaligned]
  have clc : (s.trackSample k x).clc = s.clc := by rw [only]; rfl
  rw [State.link] at link
  have locked : ((s.trackSample k x).setClc k (·.sampleRuns false)).link k = .locked := by
    simp [State.link, clc, Clc.sampleRuns, link]
  dsimp only
  rw [if_pos locked]
  refine if_pos ?_
  simp [clc, Clc.sampleRuns, link, run]

/-! ## Received headers (R11, R75) -/

theorem Entry.isRxTo_link {u : UnitId} {q : Nat} {e : Entry} (h : e.isRxTo u q = true) : e.link? = none := by
  unfold Entry.isRxTo at h
  unfold Entry.link?
  split <;> simp_all

/-- The header rule changes a context and may remove a profile entry (R73, R75). -/
theorem State.headerRule_adapts (s : State) (u : UnitId) (q : Nat) : s.Adapts (s.headerRule u q) := by
  have removed : ∀ (x : State) (b : Bool), x.Adapts (if b then x.removeEntries (Entry.isRxTo u q) else x) := fun x b => by
    cases b
    · exact .refl x
    · exact x.removeEntries_adapts fun _ => Entry.isRxTo_link
  have completed : ∀ x : State, x.Adapts (if (x.ade.get u).state = .dropping ∧ q = 0 then x.completeDrop u else x) := fun x => by
    split
    · exact x.setAde_adapts u _
    · exact .refl x
  exact ((s.setAde_adapts u _).trans (removed _ _)).trans (completed _)

theorem State.takeProfileIndex_adapts (s : State) (k : CarrierId) (q : Nat) : s.Adapts (s.takeProfileIndex k q) := by
  unfold State.takeProfileIndex
  split
  · split
    · exact s.headerRule_adapts _ q
    · exact .refl s
  · exact .refl s

theorem State.takeRxFrame_receives (s : State) (k : CarrierId) (h : Option Header) (bs : List RxBlock) :
    s.Receives (s.takeRxFrame k h bs) := by
  unfold State.takeRxFrame
  split
  · exact s.receiveFrame_receives k h bs
  · exact .refl s

/-- The fourth header in a row without ALIGNED loses the lock (R31). -/
theorem State.takeAligned_loses {s : State} {k : CarrierId} (link : s.link k = .locked) (run : (s.clc.get k).headerRun = 3) :
    s.takeAligned k false = (s.setClc k (·.headerSeen false)).changeLink k Clc.loseLock := by
  unfold State.takeAligned
  rw [link]
  rw [State.link] at link
  refine if_pos ?_
  simp [Clc.headerSeen, link, run]

/-- The drop flag of a header on a carrier that is no longer LOCKED moves nothing (R98). -/
theorem State.takeDropOf_unlocked {s : State} {k : CarrierId} (h : s.isLocked k = false) (drop : Bool) : s.takeDropOf k drop = s := by
  unfold State.takeDropOf
  split
  · rw [if_neg (by simp [h])]
  · rfl

/-- HSN and frame number of a good header are noted (R5, R11). -/
def State.noteHeader (s : State) (k : CarrierId) (h : Header) : State :=
  { s with htu := { s.htu with lastHeader := s.htu.lastHeader.set k (some (h.hsn, h.frame)) } }

theorem State.noteHeader_approaches (s : State) (k : CarrierId) (h : Header) : s.Approaches (s.noteHeader k h) :=
  .of (f := s.ftr) (a := s.ade) (q := s.scu) (r := s.rxa) (n := s.cpm.traffic) (l := s.links) (o := s.out) rfl (.same rfl rfl)

/-! ## The loss of lock -/

theorem State.opened_approaches (s : State) : s.Approaches { s with out := [] } :=
  .of (f := s.ftr) (a := s.ade) (q := s.scu) (r := s.rxa) (n := s.cpm.traffic) (g := s.htu.lastHeader) (l := s.links) rfl
    (.same rfl rfl)

/-- A carrier whose run `f` has just filled loses its lock, whatever else the event did before (R31). -/
theorem State.losesLock {s y : State} {k : CarrierId} {u : UnitId} {f : Clc → Clc} (before : s.Approaches y) (clc : y.clc = s.clc)
    (link : s.link k = .locked) (unit : s.unitOf k = some u) (anchored : s.htu.anchor = s.lowestLocked)
    (runs : ∀ c : Clc, (f c).link = c.link ∧ (f c).joined = c.joined ∧ (f c).loseLock = c.unlocked) :
    let t := ((y.setClc k f).changeLink k Clc.loseLock).startTransmitters
    (t.clc = s.clc.set k (s.clc.get k).unlocked ∧ s.LostLocked t k ∧ (t.ftr.get k).ring = [] ∧ (t.ftr.get k).acc = ⟨0, 0, 0, 0, 0⟩ ∧
      ∀ j, (t.links.get j).raised &&& flagCarrier = flagCarrier) ∧
    t.out = y.out ∧ t.htu.lastHeader = y.htu.lastHeader ∧ ∀ j, (t.scu.get j).errors = (y.scu.get j).errors := by
  have role : s.role k ≠ .off := fun h => by simp [State.unitOf, h] at unit
  obtain ⟨a, old⟩ := State.anchor_of_locked anchored link role
  have counted := before.trans (y.setClc_approaches k (fun c => (runs c).1) fun c => (runs c).2.1)
  have left := State.left_changeLink (f := Clc.loseLock) counted link unit old nofun
  have ftr := left.ftr.trans (if_pos rfl)
  refine ⟨⟨left.clc.trans ?_, left.lost, by rw [ftr, Four.get_modify_self]; rfl, by rw [ftr, Four.get_modify_self]; rfl, left.carrier⟩,
    left.out, left.lastHeader, left.errors⟩
  rw [State.setClc_clc, clc, Four.get_modify_self, (runs _).2.2]
  exact Four.set_set _ _ _ _

section
variable {s : State} {k : CarrierId} (link : s.link k = .locked)
include link

theorem State.locked_hears : (({ s with out := [] } : State).link k).hears = true := by
  show (s.link k).hears = true
  rw [link]
  rfl

/-- A good header without ALIGNED that loses the lock moves nothing behind it (R11). -/
theorem State.takeHeader_loses {u : UnitId} {h : Header} (unit : s.unitOf k = some u) (anchored : s.htu.anchor = s.lowestLocked)
    (run : (s.clc.get k).headerRun = 3) (slot : h.slot = none) (aligned : h.aligned = false) :
    s.takeHeader k h =
      (((s.takeProfileIndex k h.profile).noteHeader k h).setClc k (·.headerSeen false)).changeLink k Clc.loseLock := by
  obtain ⟨approaches, _, _, _, _, only⟩ := s.takeProfileIndex_adapts k h.profile
  have link' : ((s.takeProfileIndex k h.profile).noteHeader k h).link k = .locked := (approaches.link k).trans link
  have run' : (((s.takeProfileIndex k h.profile).noteHeader k h).clc.get k).headerRun = 3 := by
    rw [State.noteHeader, only]
    exact run
  obtain ⟨⟨clc, -⟩, -⟩ := State.losesLock (f := (·.headerSeen false)) (approaches.trans (State.noteHeader_approaches _ k h))
    (by rw [State.noteHeader, only]) link unit anchored fun _ => ⟨rfl, rfl, rfl⟩
  have unlocked : ((((s.takeProfileIndex k h.profile).noteHeader k h).setClc k (·.headerSeen false)).changeLink k
      Clc.loseLock).isLocked k = false := by
    rw [← State.isLocked_congr (State.startTransmitters_clc _), State.isLocked, State.link, clc, Four.get_set_self]
    rfl
  show ((((s.takeProfileIndex k h.profile).noteHeader k h).takeAligned k h.aligned).takeDropOf k h.drop).takeSlot k h = _
  rw [aligned, State.takeAligned_loses link' run', State.takeDropOf_unlocked unlocked, State.takeSlot, slot]

end

/-- Settles O24: the run that fills, of samples or of headers, brings about one and the same loss of lock. -/
theorem fourthUnalignedLosesLock : Obligations.FourthUnalignedLosesLock := by
  rintro k u x h bs s ⟨running, settled⟩ link unit anchored
  have opened := s.opened_approaches
  refine ⟨fun valid unaligned run => ?_, fun run => ?_, fun run above => ?_, fun run within slot aligned => ?_⟩
  · refine completes_event (f := fun s => s.takeSample k x) rfl running ?_
    obtain ⟨approaches, _, _, _, _, only⟩ := State.trackSample_approaches (s := { s with out := [] }) (k := k) (x := x)
      fun h => by cases link.symm.trans h
    obtain ⟨lost, out, -⟩ := State.losesLock (f := (·.sampleRuns false)) (opened.trans approaches) (by rw [only]; rfl) link unit
      anchored fun _ => ⟨rfl, rfl, rfl⟩
    rw [State.takeSample_locked (s := { s with out := [] }) link valid unaligned run]
    exact ⟨lost, out.trans (by rw [only]; rfl)⟩
  · refine completes_event (f := fun s => s.takeFrame k none bs) rfl running ?_
    have received := State.takeRxFrame_receives { s with out := [] } k none bs
    obtain ⟨_, _, _, only⟩ := received.only
    obtain ⟨lost, out, -⟩ := State.losesLock (f := (·.headerSeen false)) (opened.trans received.approaches) (by rw [only]) link unit
      anchored fun _ => ⟨rfl, rfl, rfl⟩
    rw [State.takeFrame_heard (State.locked_hears link), State.hearFrame,
      State.takeAligned_loses ((received.approaches.link k).trans link) (by rw [only]; exact run)]
    exact ⟨lost, out.trans (by rw [only])⟩
  · refine completes_event (f := fun s => s.takeFrame k (some h) bs) rfl running ?_
    have received := State.takeRxFrame_receives (({ s with out := [] } : State).serviceError k) k none bs
    obtain ⟨_, _, _, only⟩ := received.only
    have counted : s.Approaches (({ s with out := [] } : State).serviceError k) :=
      .of (f := s.ftr) (a := s.ade) (r := s.rxa) (n := s.cpm.traffic) (g := s.htu.lastHeader) (l := s.links) rfl (.same rfl rfl)
    obtain ⟨lost, out, -, errors⟩ := State.losesLock (f := (·.headerSeen false)) (counted.trans received.approaches) (by rw [only]; rfl)
      link unit anchored fun _ => ⟨rfl, rfl, rfl⟩
    rw [State.takeFrame_heard (State.locked_hears link), State.hearFrame, if_pos (by exact above),
      State.takeAligned_loses ((received.approaches.link k).trans link) (by rw [only]; exact run)]
    exact ⟨lost, out.trans (by rw [only]; rfl), (errors k).trans (by rw [only]; simp)⟩
  · refine completes_event (f := fun s => s.takeFrame k (some h) bs) rfl running ?_
    have received := State.takeRxFrame_receives { s with out := [] } k (some h) bs
    obtain ⟨_, _, _, only⟩ := received.only
    obtain ⟨adapted, _, _, _, _, only'⟩ :=
      State.takeProfileIndex_adapts (({ s with out := [] } : State).takeRxFrame k (some h) bs) k h.profile
    obtain ⟨lost, out, header, -⟩ := State.losesLock (f := (·.headerSeen false))
      (((opened.trans received.approaches).trans adapted).trans (State.noteHeader_approaches _ k h))
      (by rw [State.noteHeader, only', only]) link unit anchored fun _ => ⟨rfl, rfl, rfl⟩
    rw [State.takeFrame_heard (State.locked_hears link), State.hearFrame, if_neg (by exact Nat.not_lt.2 within),
      State.takeHeader_loses ((received.approaches.link k).trans link) (by rw [only]; exact unit) (by rw [only]; exact anchored)
        (by rw [only]; exact run) slot aligned]
    exact ⟨lost, out.trans (by rw [State.noteHeader, only', only]), header.trans (by rw [State.noteHeader, only', only])⟩

end Sys2Proof.Machine
end

section
/-! A carrier that enters LOCKED (R28, R29): profiles, level, hop, reversion, and the statement about the eighth aligned sample. -/

namespace Sys2Proof.Machine

/-! ## The parts of a lock (R29, R80, R111) -/

/-- The unit's profiles and context start afresh with its first LOCKED member, and stay with a later one (R29, R61, R80). -/
theorem State.firstLock_shape (s : State) (k : CarrierId) (u : UnitId) :
    ∃ a p i, s.firstLock k u = { s with ade := a, plc := { s.plc with txProfile := p }, cpm := { s.cpm with idleRun := i } } ∧
      (s.otherLocked k = false → p = s.plc.txProfile.set u 0 ∧ (a.get u).rxProfile = 0 ∧ (a.get u).atCap = none ∧ (a.get u).upDwell = 0) ∧
      (s.otherLocked k = true → p = s.plc.txProfile ∧ a = s.ade) := by
  cases other : s.otherLocked k with
  | true => exact ⟨s.ade, s.plc.txProfile, s.cpm.idleRun, if_pos other, nofun, fun _ => ⟨rfl, rfl⟩⟩
  | false => exact ⟨_, _, _, if_neg (by simp [other]), fun _ => ⟨rfl, by simp⟩, nofun⟩

/-- The level of a locked carrier is set, and a change of it is sent (R104, R111). -/
theorem State.fitLevel_shape {s : State} {k : CarrierId} (up : s.link k ≠ .down) :
    ∃ o, s.fitLevel k = { s with pbu := { s.pbu with level := s.pbu.level.set k (s.lockLevel k) }, out := s.out ++ o } ∧
      (s.lockLevel k ≠ s.pbu.level.get k → .modem k (.setLevel (s.lockLevel k)) ∈ s.out ++ o) := by
  unfold State.fitLevel
  split
  · rename_i same
    exact ⟨[], by simp [same], fun h => absurd same h⟩
  · rw [State.setLevel, if_neg up]
    exact ⟨[.modem k (.setLevel (s.lockLevel k))], rfl, fun _ => by simp⟩

/-- NUMBERING_ADOPTION (R5). -/
theorem State.adopt_shape (s : State) (k : CarrierId) :
    ∃ n f, s.adopt k = { s with htu := { s.htu with hsn := n, frame := f } } ∧
      (s.settings.endRole = .follow → ∀ h g, s.htu.lastHeader.get k = some (h, g) → n = h ∧ f = g) ∧
      (s.settings.endRole = .lead → n = s.htu.hsn ∧ f = s.htu.frame) := by
  unfold State.adopt
  split
  · rename_i follow
    split
    · rename_i h f found
      exact ⟨h, f, rfl, fun _ _ _ e => (by cases found.symm.trans e; exact ⟨rfl, rfl⟩),
        fun lead => nomatch follow.symm.trans lead⟩
    · rename_i absent
      exact ⟨s.htu.hsn, s.htu.frame, rfl, fun _ _ _ e => (by simp [absent] at e), fun _ => ⟨rfl, rfl⟩⟩
  · rename_i lead
    exact ⟨_, _, rfl, fun follow => absurd follow lead, fun _ => ⟨rfl, rfl⟩⟩

/-- The anchor is formed with a carrier LOCKED: HOP_UP where there was none (R5, R6, R7). -/
theorem State.reanchor_shape {s : State} {b : CarrierId} (new : s.lowestLocked = some b) :
    ∃ n f l, s.reanchor = { s with htu := { s.htu with anchor := some b, hsn := n, frame := f }, links := l } ∧ s.Notifies s.reanchor ∧
      (s.htu.anchor = none → (∀ j, (s.reanchor.links.get j).raised &&& flagHop = flagHop) ∧
        (s.settings.endRole = .follow → ∀ h g, s.htu.lastHeader.get b = some (h, g) → n = h ∧ f = g)) ∧
      (s.htu.anchor ≠ none ∨ s.settings.endRole = .lead → n = s.htu.hsn ∧ f = s.htu.frame) := by
  cases old : s.htu.anchor with
  | some a =>
    rw [State.reanchor_up old new]
    exact ⟨_, _, s.links, rfl, .same rfl rfl, nofun, fun _ => ⟨rfl, rfl⟩⟩
  | none =>
    have up : s.reanchor = ((s.anchoredAt (some b)).adopt b).raiseAll flagHop := by
      rw [State.reanchor, old, new]
      rfl
    obtain ⟨n, f, adopted, follows, leads⟩ := (s.anchoredAt (some b)).adopt_shape b
    rw [up]
    refine ⟨n, f, _, by rw [adopted]; rfl, ?_, fun _ => ⟨State.raiseAll_raised _ _, follows⟩,
      fun h => leads (h.resolve_left fun h => absurd rfl h)⟩
    exact (State.raiseAll_notifies _ _).after (by rw [adopted]; rfl) (by rw [adopted]; rfl)

/-! ## The budget behind a lock (R111) -/

/-- Two sums that differ in one of the four. -/
theorem Four.sum_build_one {f g : Fin 4 → Nat} (k : Fin 4) (h : ∀ j, j ≠ k → f j = g j) :
    (Four.build f).sum + g k = (Four.build g).sum + f k := by
  have h0 := h 0
  have h1 := h 1
  have h2 := h 2
  have h3 := h 3
  fin_cases k <;> simp_all [Four.sum, Four.build] <;> omega

theorem Four.le_sum_build (g : Fin 4 → Nat) (k : Fin 4) : g k ≤ (Four.build g).sum := by
  fin_cases k <;> simp [Four.sum, Four.build] <;> omega

theorem State.budgetInUse_set {s t : State} {k : CarrierId} {n : Nat} (costs : ∀ j, t.costs j = s.costs j) (own : s.costs k = true)
    (level : t.pbu.level = s.pbu.level.set k n) : t.budgetInUse + s.cost k = s.budgetInUse + (n + 1) := by
  have k' : t.cost k = n + 1 := by simp [State.cost, costs, own, level]
  rw [← k']
  refine Four.sum_build_one k fun j other => ?_
  rw [State.cost, costs, level, Four.get_set_of_ne _ _ other, State.cost]

/-- The level of a lock fits the budget, by the start level or to the last unit (R111). -/
theorem State.lockLevel_fits {s t : State} {k : CarrierId} (costs : ∀ j, t.costs j = s.costs j) (own : s.costs k = true)
    (level : t.pbu.level = s.pbu.level.set k (s.lockLevel k)) (fits : s.budgetInUse ≤ s.figures.budget) :
    t.budgetInUse ≤ s.figures.budget ∧ (s.lockLevel k = s.startLevel ∨ t.budgetInUse = s.figures.budget) := by
  have sum := State.budgetInUse_set costs own level
  have part : s.cost k ≤ s.budgetInUse := Four.le_sum_build s.cost k
  have positive : 1 ≤ s.cost k := by simp [State.cost, own]
  have chosen : s.lockLevel k = min s.startLevel (s.figures.budget - (s.budgetInUse - s.cost k) - 1) := rfl
  omega

/-! ## Profiles, level and hop at a lock (R5, R6, R7, R29, R111) -/

/-- The part once profiles, level and hop have taken the lock of carrier `k` of unit `u`, before the reversion (R29; log 10). -/
def State.lockHop (w : State) (k : CarrierId) (u : UnitId) : State := ((w.firstLock k u).fitLevel k).reanchor

/-- What profiles, level and hop do with a lock, the anchor becoming `b`. -/
structure State.Locks (w x : State) (k : CarrierId) (u : UnitId) (b : CarrierId) : Prop where
  only : ∃ a p i o n f l, x = { w with
    ade := a, plc := { w.plc with txProfile := p }, cpm := { w.cpm with idleRun := i }
    pbu := { w.pbu with level := w.pbu.level.set k (w.lockLevel k) }, out := o
    htu := { w.htu with anchor := some b, hsn := n, frame := f }, links := l }
  first : w.otherLocked k = false → x.plc.txProfile = w.plc.txProfile.set u 0 ∧ (x.ade.get u).rxProfile = 0 ∧
    (x.ade.get u).atCap = none ∧ (x.ade.get u).upDwell = 0
  later : w.otherLocked k = true → x.plc.txProfile = w.plc.txProfile ∧ x.ade = w.ade
  sent : w.lockLevel k ≠ w.pbu.level.get k → .modem k (.setLevel (w.lockLevel k)) ∈ x.out
  notifies : w.Notifies x
  hop : w.htu.anchor = none → ∀ j, (x.links.get j).raised &&& flagHop = flagHop
  adopts : w.htu.anchor = none → w.settings.endRole = .follow → ∀ h f, w.htu.lastHeader.get b = some (h, f) →
    x.htu.hsn = h ∧ x.htu.frame = f
  numbers : w.htu.anchor ≠ none ∨ w.settings.endRole = .lead → x.htu.hsn = w.htu.hsn ∧ x.htu.frame = w.htu.frame

theorem State.lockHop_locks {w : State} {k b : CarrierId} (u : UnitId) (up : w.link k ≠ .down) (new : w.lowestLocked = some b) :
    w.Locks (w.lockHop k u) k u b := by
  obtain ⟨a, p, i, first, fresh, kept⟩ := w.firstLock_shape k u
  have level : (w.firstLock k u).lockLevel k = w.lockLevel k := by rw [first]; rfl
  obtain ⟨o, fit, sent⟩ := State.fitLevel_shape (s := w.firstLock k u) (k := k) (by rw [first]; exact up)
  rw [level] at fit sent
  rw [first] at fit sent
  have new' : ((w.firstLock k u).fitLevel k).lowestLocked = some b := by
    rw [first, fit, ← new]
    exact State.lowestLocked_congr rfl rfl
  obtain ⟨n, f, l, anchored, notifies, hop, numbers⟩ := State.reanchor_shape new'
  rw [first, fit] at anchored notifies hop numbers
  have e : w.lockHop k u = _ := (by rw [State.lockHop, first, fit] : w.lockHop k u = _).trans anchored
  rw [e]
  rw [anchored] at notifies hop
  exact ⟨⟨_, _, _, _, _, _, _, rfl⟩, fresh, kept, sent, notifies.after rfl rfl, fun down => (hop down).1, fun down => (hop down).2,
    numbers⟩

end Sys2Proof.Machine
end

section
/-! A carrier that enters LOCKED, from the sample that makes it do so (R28, R29): the words of the statements. -/

namespace Sys2Proof.Machine

/-! ## Up to the lock -/

/-- State `w` is what a sample makes of `s` up to the moment when carrier `k` has locked and nothing has been handed on. -/
structure State.Locking (s w : State) (k : CarrierId) : Prop where
  only : ∃ f a c o, w = { s with ftr := f, ade := a, clc := s.clc.set k c, links := s.links.map (·.raise flagCarrier), out := o }
  acquires : s.link k = .acquire
  locked : w.link k = .locked
  profile : ∀ v, (w.ade.get v).rxProfile = (s.ade.get v).rxProfile

section
variable {s w : State} {k : CarrierId} (h : s.Locking w k)
include h

theorem State.Locking.link {j : CarrierId} (other : j ≠ k) : w.link j = s.link j := by
  obtain ⟨_, _, _, _, e⟩ := h.only
  rw [e]
  exact congrArg Clc.link (Four.get_set_of_ne _ _ other)

theorem State.Locking.isLocked_self : w.isLocked k = true := by simp [State.isLocked, h.locked]

theorem State.Locking.settings : w.settings = s.settings := by
  obtain ⟨_, _, _, _, e⟩ := h.only
  rw [e]

theorem State.Locking.htu : w.htu = s.htu := by
  obtain ⟨_, _, _, _, e⟩ := h.only
  rw [e]

theorem State.Locking.pbu : w.pbu = s.pbu := by
  obtain ⟨_, _, _, _, e⟩ := h.only
  rw [e]

theorem State.Locking.plc : w.plc = s.plc := by
  obtain ⟨_, _, _, _, e⟩ := h.only
  rw [e]

/-- The carrier cost budget in ACQUIRE as it does in LOCKED (R105). -/
theorem State.Locking.costs (j : CarrierId) : w.costs j = s.costs j := by
  by_cases own : j = k
  · rw [own, State.costs, State.costs, h.locked, h.acquires]
    rfl
  · rw [State.costs, State.costs, h.link own]

theorem State.Locking.costs_self : s.costs k = true := by simp [State.costs, h.acquires]

theorem State.Locking.lockLevel : w.lockLevel k = s.lockLevel k := by
  have cost : w.cost = s.cost := by
    funext j
    rw [State.cost, State.cost, h.costs, h.pbu]
  simp only [State.lockLevel, State.startLevel, State.figures, State.budgetInUse, cost, h.settings, h.pbu]

theorem State.Locking.otherLocked : w.otherLocked k = s.otherLocked k := by
  have others : (fun m => m != k && w.isLocked m) = fun m => m != k && s.isLocked m := by
    funext m
    by_cases own : m = k
    · simp [own]
    · rw [State.isLocked, State.isLocked, h.link own]
  simp only [State.otherLocked, State.unitOf_congr h.settings, State.members_congr h.settings, others]

/-- The carrier that locks is the anchor where there was none (R6). -/
theorem State.Locking.lowest (role : s.role k ≠ .off) : ∃ b, w.lowestLocked = some b ∧ (s.lowestLocked = none → b = k) := by
  have role' : w.role k ≠ .off := by rwa [State.role, h.settings]
  have found : (w.lowestLocked).isSome := by
    rw [State.lowestLocked, List.find?_isSome]
    exact ⟨k, mem_ids k, by simp [role', h.isLocked_self]⟩
  obtain ⟨b, new⟩ := Option.isSome_iff_exists.1 found
  refine ⟨b, new, fun none => by_contra fun other => ?_⟩
  have locked := List.find?_some new
  have unlocked := List.find?_eq_none.1 none b (mem_ids b)
  rw [State.isLocked, h.link other, State.role, h.settings] at locked
  exact unlocked locked

end

/-! ## The whole lock -/

/-- The part at the end of an event in which carrier `k` has locked as `w` (R29, R38). -/
def State.lockedUp (w : State) (k : CarrierId) : State := (w.afterLock k).settleCheck.startTransmitters

section
variable {s w : State} {k : CarrierId} {u : UnitId}

theorem State.afterLock_eq (unit : w.unitOf k = some u) : w.afterLock k = (w.lockHop k u).requestRevertsOf k := by
  rw [State.afterLock, unit]
  rfl

/-- Behind profiles, level and hop only requests and the event's end follow. -/
theorem State.lockedUp_shape (unit : w.unitOf k = some u) : ∃ q es n b l, w.lockedUp k = { w.lockHop k u with
    scu := q, plc := { (w.lockHop k u).plc with plan := (w.lockHop k u).plc.plan ++ es, nextTag := n }
    pbu := { (w.lockHop k u).pbu with settling := b }, links := l } := by
  obtain ⟨b, l, closed⟩ := (w.afterLock k).close_shape
  obtain ⟨⟨q, es, n, l', asked, -⟩, -⟩ := (w.lockHop k u).requestRevertsOf_requests k
  rw [State.lockedUp, closed, State.afterLock_eq unit, asked]
  exact ⟨_, _, _, _, _, rfl⟩

theorem State.lockHop_notifies (unit : w.unitOf k = some u) : (w.lockHop k u).Notifies (w.lockedUp k) := by
  rw [State.lockedUp, State.afterLock_eq unit]
  exact (((w.lockHop k u).requestRevertsOf_requests k).notifies.trans (State.settleCheck_notifies _)).trans
    (State.startTransmitters_notifies _)

variable {b : CarrierId} (h : s.Locking w k) (locks : w.Locks (w.lockHop k u) k u b)

include locks in
/-- Controllers, trackers and latest headers are not what a lock hands on. -/
theorem State.Locks.lockedUp_keeps (unit : w.unitOf k = some u) :
    (w.lockedUp k).clc = w.clc ∧ (w.lockedUp k).ftr = w.ftr ∧ (w.lockedUp k).htu.lastHeader = w.htu.lastHeader := by
  obtain ⟨_, _, _, _, _, final⟩ := State.lockedUp_shape unit
  obtain ⟨_, _, _, _, _, _, _, hop⟩ := locks.only
  rw [final, hop]
  exact ⟨rfl, rfl, rfl⟩

include h locks

theorem State.Locks.free (substitutes : s.substitutes) : (w.lockHop k u).Free := by
  obtain ⟨⟨-, calm, plan⟩, lead, promotion⟩ := substitutes
  obtain ⟨_, _, _, _, _, _, _, e⟩ := locks.only
  rw [e]
  exact ⟨nofun, by rw [← h.htu] at calm; exact calm, by rw [← h.plc] at plan; exact plan, by rw [← h.settings] at lead; exact lead,
    by rw [← h.settings] at promotion; exact promotion⟩

/-- The reversion that a lock asks for (R136). -/
theorem State.Locking.asks (unit : w.unitOf k = some u) : s.AsksAtLock (w.lockedUp k) k := by
  intro substitutes able r mem replaced sole unlocked able'
  have free := locks.free h substitutes
  obtain ⟨_, _, closed⟩ := (w.afterLock k).close_shape
  obtain ⟨_, _, _, _, _, final⟩ := State.lockedUp_shape unit
  obtain ⟨_, _, _, _, _, _, _, e⟩ := locks.only
  obtain ⟨_, _, _, _, only⟩ := h.only
  have clc : (w.lockedUp k).clc = (w.lockHop k u).clc := by rw [final]
  have subs : (w.lockHop k u).cpm.subs = s.cpm.subs := by rw [e, only]
  have self : (w.lockHop k u).isLocked k = true := (State.isLocked_congr (by rw [e]) k).trans h.isLocked_self
  have backoff : ∀ {j}, (w.lockHop k u).backoffWithin 0 j ↔ s.backoffWithin 0 j :=
    State.backoffWithin_congr (by rw [e, only]) (by rw [e, only])
  rw [State.isLocked_congr clc] at unlocked
  subst replaced
  have asked : ((w.lockHop r.t u).requestRevertsOf r.t).Asked (.revert r.s r.t) := by
    refine State.requestRevertsOf_asked free (subs ▸ mem) (.inr rfl) ?_ (backoff.2 able') (backoff.2 able) fun q hq names differs => ?_
    · simp [State.revertNow, unlocked, self]
    · rcases names with names | names
      · simp [State.revertNow, names, self]
      · exact absurd (sole q (subs ▸ hq) names) differs
  rw [← State.afterLock_eq unit] at asked
  exact asked.congr (by rw [State.lockedUp, closed]) (by rw [State.lockedUp, closed]) (by rw [State.lockedUp, closed])

end

/-! ## The words of the statements -/

section
variable {s w : State} {k : CarrierId} {u : UnitId} {b : CarrierId} (h : s.Locking w k) (unit : w.unitOf k = some u)
  (locks : w.Locks (w.lockHop k u) k u b)
include h unit locks

/-- What a lock leaves of the part before its event, up to the links and the outputs. -/
theorem State.Locking.shape : ∃ f a c q p e n i r m v l o, w.lockedUp k = { s with
    ftr := f, ade := a, clc := s.clc.set k c, scu := q, plc := { s.plc with txProfile := p, plan := e, nextTag := n }
    cpm := { s.cpm with idleRun := i }, pbu := { s.pbu with level := s.pbu.level.set k (s.lockLevel k), settling := r }
    htu := { s.htu with anchor := some b, hsn := m, frame := v }, links := l, out := o } := by
  obtain ⟨_, _, _, _, _, final⟩ := State.lockedUp_shape unit
  obtain ⟨_, _, _, _, _, _, _, hop⟩ := locks.only
  have level := h.lockLevel
  obtain ⟨_, _, _, _, only⟩ := h.only
  rw [final, hop, level, only]
  exact ⟨_, _, _, _, _, _, _, _, _, _, _, _, _, rfl⟩

/-- What follows when a carrier has locked, the anchor being `b`. -/
theorem State.Locking.gainedLocked (new : w.lowestLocked = some b) (first : s.htu.anchor = none → b = k) :
    s.GainedLocked (w.lockedUp k) k u := by
  obtain ⟨_, _, _, _, _, final⟩ := State.lockedUp_shape unit
  obtain ⟨_, _, _, _, _, _, _, _, _, _, _, _, _, shape⟩ := h.shape unit locks
  obtain ⟨clc, -, -⟩ := locks.lockedUp_keeps unit
  have settings : (w.lockedUp k).settings = w.settings := by rw [shape, h.settings]
  have htu : (w.lockedUp k).htu = (w.lockHop k u).htu := by rw [final]
  have anchor : (w.lockedUp k).htu.anchor = some b := by rw [shape]
  have ade : (w.lockedUp k).ade = (w.lockHop k u).ade := by rw [final]
  have profile : (w.lockedUp k).plc.txProfile = (w.lockHop k u).plc.txProfile := by rw [final]
  have out : (w.lockedUp k).out = (w.lockHop k u).out := by rw [final]
  have latest : (w.lockedUp k).htu.lastHeader = s.htu.lastHeader := by rw [shape]
  have level : (w.lockedUp k).pbu.level = s.pbu.level.set k (s.lockLevel k) := by rw [shape]
  have costs : ∀ j, (w.lockedUp k).costs j = s.costs j := fun j => by
    rw [← h.costs j, State.costs, State.link, clc]
    rfl
  have later := State.lockHop_notifies unit
  have carrier : ∀ j, (w.links.get j).raised &&& flagCarrier = flagCarrier := by
    obtain ⟨_, _, _, _, only⟩ := h.only
    rw [only]
    exact s.raiseAll_raised flagCarrier
  have numbers := locks.numbers
  have adopts := locks.adopts
  have hopUp := locks.hop
  have fresh := locks.first
  have kept := locks.later
  have sent := locks.sent
  rw [h.htu, h.settings] at numbers adopts
  rw [h.htu] at hopUp
  rw [h.otherLocked, h.plc] at fresh kept
  rw [h.lockLevel, h.pbu] at sent
  refine ⟨?_, fun down follow g f header => ?_, fun up => ?_, fun alone => ?_, fun pair => ?_, ?_, fun j => ⟨?_, fun down => ?_⟩,
    h.asks locks unit, by rw [shape], by rw [shape], by rw [shape], by rw [shape], by rw [shape]⟩
  · rw [anchor, State.lowestLocked_congr settings clc, new]
  · rw [latest, ← first down] at header
    rw [htu]
    exact adopts down follow g f header
  · rw [htu]
    exact numbers up
  · rw [profile, ade]
    exact fresh alone
  · rw [profile, ade, (kept pair).2]
    exact ⟨(kept pair).1, h.profile u⟩
  · rw [out]
    exact ⟨s.lockLevel k, level, Nat.min_le_left _ _, sent, State.lockLevel_fits costs h.costs_self level⟩
  · exact later.keeps (locks.notifies.keeps (carrier j))
  · exact later.keeps (hopUp down j)

end

/-! ## The sample (R28) -/

/-- A sample's short mean is handed to the unit's context and to nothing else of it (R46). -/
theorem State.handShortMean_profile (s : State) (k : CarrierId) (v : UnitId) :
    ((s.handShortMean k).ade.get v).rxProfile = (s.ade.get v).rxProfile := by
  unfold State.handShortMean
  split
  · simp only [State.setAde_ade, Four.get_modify]
    split <;> rfl
  · rfl

/-- The eighth aligned sample, up to what the lock hands on. -/
def State.lockedBySample (s : State) (k : CarrierId) (x : SampleData) : State :=
  ((s.sampled k x).setClc k (·.sampleRuns true)).moved k ((s.clc.get k).counted true).locked

section
variable {s : State} {k : CarrierId} {x : SampleData} (link : s.link k = .acquire)
include link

theorem State.lockedBySample_locking : s.Locking (s.lockedBySample k x) k := by
  have twice : ((s.clc.modify k (·.sampleRuns true)).set k ((s.clc.get k).counted true).locked) =
      s.clc.set k ((s.clc.get k).counted true).locked := Four.set_set _ _ _ _
  have clc : (s.lockedBySample k x).clc = s.clc.set k ((s.clc.get k).counted true).locked := twice
  refine ⟨⟨(s.lockedBySample k x).ftr, (s.lockedBySample k x).ade, ((s.clc.get k).counted true).locked, (s.lockedBySample k x).out, ?_⟩,
    link, ?_, fun v => ?_⟩
  · rw [← clc]
    rfl
  · rw [State.link, clc, Four.get_set_self]
    rfl
  · exact (s.setFtr k (·.record x)).handShortMean_profile k v

/-- The eighth aligned sample with the latest header ALIGNED makes the carrier LOCKED (R28). -/
theorem State.takeSample_locks (valid : x.inRange) (aligned : x.aligns (s.ftr.get k).mode = true) (run : 7 ≤ (s.clc.get k).alignedRun)
    (header : (s.clc.get k).headerAligned = true) :
    s.takeSample k x = ((s.lockedBySample k x).afterLock k).settleCheck := by
  have calm : (s.sampled k x).isLocked k = false := by
    show (s.link k == .locked) = false
    rw [link]
    rfl
  rw [State.takeSample, if_pos ⟨.inl link, sampleValid_of_inRange valid⟩, sampleAligned_eq, aligned,
    State.trackSample_eq (by simp [link]), State.testEmergency_unlocked calm]
  have counted : ((s.sampled k x).setClc k (·.sampleRuns true)).clc.get k = (s.clc.get k).counted true :=
    Four.get_modify_self _ _ _
  have link' : ((s.clc.get k).counted true).link = .acquire := link
  have acquires : ((s.sampled k x).setClc k (·.sampleRuns true)).link k = .acquire := by rw [State.link, counted, link']
  have full : 8 ≤ ((s.clc.get k).counted true).alignedRun := by
    simp only [Clc.counted, if_pos]
    omega
  have header' : ((s.clc.get k).counted true).headerAligned = true := header
  have ready : ((s.sampled k x).setClc k (·.sampleRuns true)).lockIfReady k =
      ((s.sampled k x).setClc k (·.sampleRuns true)).changeLink k Clc.toLocked := by
    rw [State.lockIfReady, counted]
    exact if_pos (by simp [link', full, header'])
  dsimp only
  rw [if_neg (by simp [acquires]), ready, State.changeLink_toLocked (by simp [acquires]) rfl, counted]
  rfl

end

/-- Settles O23: the sample makes the carrier LOCKED, and what that hands on is the same for every lock. -/
theorem eighthAlignedSampleLocks : Obligations.EighthAlignedSampleLocks := by
  rintro k u x s ⟨running, -⟩ link unit valid aligned run header anchored
  refine completes_event (f := fun s => s.takeSample k x) rfl running ?_
  rw [State.takeSample_locks (s := { s with out := [] }) link valid aligned run header]
  obtain ⟨only, -, locked, profile⟩ := State.lockedBySample_locking (s := { s with out := [] }) (x := x) link
  have locking : s.Locking (({ s with out := [] } : State).lockedBySample k x) k := ⟨only, link, locked, profile⟩
  have unit' := (State.unitOf_congr locking.settings k).trans unit
  obtain ⟨b, new, first⟩ := locking.lowest fun off => by simp [State.unitOf, off] at unit
  have locks := State.lockHop_locks (k := k) u (fun down => by cases locked.symm.trans down) new
  obtain ⟨clc, ftr, latest⟩ := locks.lockedUp_keeps unit'
  refine ⟨clc.trans ?_, locking.gainedLocked unit' locks new fun down => first (anchored ▸ down), ftr, latest⟩
  exact Four.set_set _ _ _ _

end Sys2Proof.Machine
end

section
/-! Expiries that only let later decisions act (log 31). -/

namespace Sys2Proof.Machine

/-- An expiry without an effect of its own leaves the list of those left, and nothing else happens (log 31). -/
theorem completes_observing {c : Instr} {s : State} {e : Expiry} (arm : exec c s = event s fun s => s.takeExpiry e)
    (observes : ∀ s, runExpiry s e = s) (steady : s.steady) :
    Completes c s fun t => t = { s with due := s.due.erase e, out := [] } := by
  obtain ⟨running, settled⟩ := steady
  refine completes_event arm running ?_
  have taken : ({ s with out := [] } : State).takeExpiry e = { s with due := s.due.erase e, out := [] } := by
    unfold State.takeExpiry
    split
    · exact observes _
    · rename_i absent
      rw [List.erase_of_not_mem (by simpa using absent)]
  rw [taken]
  exact State.settled_same settled rfl rfl

/-- Settles O16: none of the five expiries has an effect of its own. -/
theorem observingExpiriesChangeNothing : Obligations.ObservingExpiriesChangeNothing := fun _ _ steady =>
  ⟨completes_observing rfl (fun _ => rfl) steady, completes_observing rfl (fun _ => rfl) steady,
    completes_observing rfl (fun _ => rfl) steady, completes_observing rfl (fun _ => rfl) steady,
    completes_observing rfl (fun _ => rfl) steady⟩

end Sys2Proof.Machine
end

section
/-! Samples that change no link state (R39–R46, R50–R54, R72): discarded whole, recorded, or entering DROPPING. -/

namespace Sys2Proof.Machine

/-! ## The short mean handed on (R42, R46) -/

theorem Ftr.newestMean_eq (f : Ftr) : f.newestMean = f.shortMean := by
  unfold Ftr.newestMean Ftr.shortMean
  by_cases short : f.ring.length < 8
  · rw [if_pos short, if_neg (Nat.not_le.2 short)]
  · rw [if_neg short, if_pos (Nat.not_lt.1 short)]
    rfl

/-- The members of a unit that has any: its primary, then its mirror (R23). -/
theorem State.members_cases (s : State) (u : UnitId) : s.members u = [] ∨ s.members u = u :: (s.mirrorOf u).toList := by
  unfold State.members
  cases s.role u
  · exact .inl rfl
  · exact .inr rfl
  · exact .inr rfl
  · exact .inl rfl

theorem State.members_pair {s : State} {u : UnitId} (pair : s.isPair u = true) : ∃ m, s.members u = [u, m] := by
  simp only [State.isPair, beq_iff_eq] at pair
  obtain none' | some' := s.members_cases u
  · simp [none'] at pair
  · cases mirror : s.mirrorOf u with
    | none => simp [some', mirror] at pair
    | some m => exact ⟨m, by simp [some', mirror]⟩

/-- The higher of two values is one of them, and no less than either (R46). -/
theorem higher_eq_some {a b : Option Nat} {n : Nat} (h : higher a b = some n) :
    (a = some n ∨ b = some n) ∧ (∀ m, a = some m → m ≤ n) ∧ ∀ m, b = some m → m ≤ n := by
  cases a <;> cases b <;> simp_all [higher]
  omega

theorem higher_of_some {a b : Option Nat} {m : Nat} (h : a = some m ∨ b = some m) : ∃ n, higher a b = some n := by
  cases a <;> cases b <;> simp_all [higher]

/-- The short mean of a LOCKED member (R46). -/
def State.lockedMean (s : State) (k : CarrierId) : Option Nat := if s.isLocked k then (s.ftr.get k).shortMean else none

theorem State.lockedMean_eq_some {s : State} {k : CarrierId} {n : Nat} :
    s.lockedMean k = some n ↔ s.isLocked k = true ∧ (s.ftr.get k).shortMean = some n := by
  simp [State.lockedMean]

theorem State.unitShortMean_pair {s : State} {u m : UnitId} (members : s.members u = [u, m]) :
    s.unitShortMean u = higher (s.lockedMean u) (s.lockedMean m) := by
  simp [State.unitShortMean, State.isPair, members, State.lockedMean, higher]

/-- A context that holds the unit's short mean holds it as the statements say (R46). -/
theorem State.handsShortMean_of {t : State} {k : CarrierId}
    (mean : ∀ u, t.unitOf k = some u → (t.ade.get u).shortMean = t.unitShortMean u) : t.HandsShortMean k := by
  intro u unit
  simp only [mean u unit, Ftr.newestMean_eq]
  refine ⟨fun single => ?_, fun pair => ?_⟩
  · have primary : k = u := by
      obtain members | members := t.members_cases u
      · simp [members] at single
      · rw [members] at single
        exact (List.cons.inj single).1.symm
    subst primary
    simp [State.unitShortMean, State.isPair, single]
  · obtain ⟨m, members⟩ := State.members_pair pair
    rw [State.unitShortMean_pair members, members]
    refine ⟨fun j hj locked n defined => ?_, fun h best => ?_⟩
    · have gives := State.lockedMean_eq_some.2 ⟨locked, defined⟩
      have one : t.lockedMean u = some n ∨ t.lockedMean m = some n := by
        rcases List.mem_pair.1 hj with rfl | rfl
        · exact .inl gives
        · exact .inr gives
      obtain ⟨h, best⟩ := higher_of_some one
      obtain ⟨-, first, second⟩ := higher_eq_some best
      exact ⟨h, best, one.elim (first n) (second n)⟩
    · obtain ⟨first | second, -⟩ := higher_eq_some best
      · exact ⟨u, by simp, State.lockedMean_eq_some.1 first⟩
      · exact ⟨m, by simp, State.lockedMean_eq_some.1 second⟩

/-- A unit's short mean depends on the roles, the carriers LOCKED and the rings (R42, R46). -/
theorem State.unitShortMean_congr {s t : State} (settings : t.settings = s.settings) (locked : ∀ j, t.isLocked j = s.isLocked j)
    (rings : ∀ j, (t.ftr.get j).ring = (s.ftr.get j).ring) (u : UnitId) : t.unitShortMean u = s.unitShortMean u := by
  have members := State.members_congr settings u
  have means : ∀ j, (t.ftr.get j).shortMean = (s.ftr.get j).shortMean := fun j => by rw [Ftr.shortMean, rings, Ftr.shortMean]
  rw [State.unitShortMean, State.unitShortMean, State.isPair, State.isPair, members, means]
  simp only [locked, means]

/-! ## A sample recorded (R39–R46, R50) -/

theorem inRange_of_sampleValid {x : SampleData} (h : sampleValid x = true) : x.inRange := by
  simp only [sampleValid, Bool.and_eq_true, decide_eq_true_eq] at h
  obtain ⟨⟨⟨⟨upper, lower⟩, output⟩, errors⟩, selectivity⟩ := h
  exact ⟨upper, lower, output, errors, selectivity⟩

theorem Clc.counted_link (c : Clc) (aligned : Bool) : (c.counted aligned).link = c.link := by
  cases aligned <;> rfl

section
variable {s : State} {k : CarrierId} {x : SampleData}

/-- A sample outside ACQUIRE and LOCKED, or out of range, changes nothing (R19, R39). -/
theorem State.takeSample_discards (h : (s.link k ≠ .acquire ∧ s.link k ≠ .locked) ∨ ¬x.inRange) : s.takeSample k x = s := by
  refine if_neg ?_
  rintro ⟨listens, valid⟩
  rcases h with ⟨acquire, locked⟩ | range
  · exact listens.elim acquire locked
  · exact range (inRange_of_sampleValid valid)

/-- The unit's short mean is handed on, and nothing else of the contexts changes (R46). -/
theorem State.sampled_ade (s : State) (k : CarrierId) (x : SampleData) :
    (s.sampled k x).ade = match s.unitOf k with
      | some u => s.ade.modify u fun a => { a with shortMean := (s.sampled k x).unitShortMean u }
      | none => s.ade := by
  have mean : ∀ u, (s.setFtr k (·.record x)).unitShortMean u = (s.sampled k x).unitShortMean u := fun u => by
    refine State.unitShortMean_congr (s := s.sampled k x) (t := s.setFtr k (·.record x)) rfl (fun _ => rfl) (fun j => ?_) u
    simp only [State.setFtr_ftr, State.sampled, Four.get_modify, Four.get_set]
    split
    · rename_i same
      rw [same]
      rfl
    · rfl
  show ((s.setFtr k (·.record x)).handShortMean k).ade = _
  have unit : (s.setFtr k (·.record x)).unitOf k = s.unitOf k := rfl
  unfold State.handShortMean
  rw [unit]
  cases s.unitOf k with
  | none => rfl
  | some u => simp [mean]

theorem State.sampled_state (s : State) (k : CarrierId) (x : SampleData) (u : UnitId) :
    ((s.sampled k x).ade.get u).state = (s.ade.get u).state := by
  rw [State.sampled_ade]
  split
  · rw [Four.get_modify]
    split <;> rfl
  · rfl

/-- Counting a sample changes no link state (R28, R31). -/
theorem State.counted_link (z : State) (aligned : Bool) (j : CarrierId) : (z.setClc k (·.sampleRuns aligned)).link j = z.link j := by
  simp only [State.link, State.setClc_clc, Four.get_modify]
  split
  · exact Clc.counted_link _ _
  · rfl

/-- In ACQUIRE, short of the lock, a sample is recorded and counted (R28, R39). -/
theorem State.takeSample_acquire (link : s.link k = .acquire) (valid : x.inRange)
    (short : ¬(x.aligns (s.ftr.get k).mode = true ∧ 7 ≤ (s.clc.get k).alignedRun ∧ (s.clc.get k).headerAligned = true)) :
    s.takeSample k x = (s.sampled k x).setClc k (·.sampleRuns (x.aligns (s.ftr.get k).mode)) := by
  have calm : (s.sampled k x).isLocked k = false := by
    show (s.link k == .locked) = false
    rw [link]
    rfl
  rw [State.takeSample, if_pos ⟨.inl link, sampleValid_of_inRange valid⟩, sampleAligned_eq, State.trackSample_eq (by simp [link]),
    State.testEmergency_unlocked calm]
  dsimp only
  have acquires : (s.sampled k x).link k = .acquire := link
  rw [if_neg (by simp [State.counted_link, acquires])]
  refine if_neg fun ready => short ?_
  have counted : ((s.sampled k x).setClc k (·.sampleRuns (x.aligns (s.ftr.get k).mode))).clc.get k =
      (s.clc.get k).counted (x.aligns (s.ftr.get k).mode) := Four.get_modify_self _ _ _
  rw [counted] at ready
  simp only [Bool.and_eq_true, decide_eq_true_eq] at ready
  obtain ⟨⟨-, run⟩, header⟩ := ready
  cases aligned : x.aligns (s.ftr.get k).mode with
  | false => simp [Clc.counted, aligned] at run
  | true =>
    rw [aligned] at run header
    simp only [Clc.counted, if_pos] at run header
    exact ⟨rfl, by omega, header⟩

/-- In LOCKED, short of its loss, a sample is recorded, tested for an emergency, and counted (R31, R39). -/
theorem State.takeSample_stays (link : s.link k = .locked) (valid : x.inRange)
    (kept : x.aligns (s.ftr.get k).mode = true ∨ (s.clc.get k).unalignedRun < 3) (header : (s.clc.get k).headerRun < 4) :
    s.takeSample k x = ((s.sampled k x).testEmergency k).setClc k (·.sampleRuns (x.aligns (s.ftr.get k).mode)) := by
  rw [State.takeSample, if_pos ⟨.inr link, sampleValid_of_inRange valid⟩, sampleAligned_eq, State.trackSample_eq (by simp [link])]
  obtain ⟨-, _, _, _, _, only⟩ := (s.sampled k x).testEmergency_adapts k
  have clc : ((s.sampled k x).testEmergency k).clc = s.clc := by rw [only]; rfl
  have locked : ((s.sampled k x).testEmergency k).link k = .locked := by rw [State.link, clc]; exact link
  dsimp only
  rw [if_pos (by rw [State.counted_link, locked])]
  refine if_neg fun lost => ?_
  have counted : (((s.sampled k x).testEmergency k).setClc k (·.sampleRuns (x.aligns (s.ftr.get k).mode))).clc.get k =
      (s.clc.get k).counted (x.aligns (s.ftr.get k).mode) := by
    rw [State.setClc_clc, clc]
    exact Four.get_modify_self _ _ _
  rw [counted] at lost
  simp only [Bool.and_eq_true, Bool.or_eq_true, decide_eq_true_eq] at lost
  obtain ⟨-, run⟩ := lost
  cases aligned : x.aligns (s.ftr.get k).mode with
  | true =>
    simp [Clc.counted, aligned] at run
    omega
  | false =>
    have few := kept.resolve_left (by simp [aligned])
    simp [Clc.counted, aligned] at run
    omega

/-! ## The event of a sample that changes no link state -/

/-- The part behind a sample that changes no link state, with contexts `a` and Plan Controller `p` behind the emergency test. -/
def State.afterSample (s : State) (k : CarrierId) (x : SampleData) (a : Four Ade) (p : Plc) : State :=
  { s with ftr := s.ftr.set k ((s.ftr.get k).sampled x)
           clc := s.clc.set k ((s.clc.get k).counted (x.aligns (s.ftr.get k).mode))
           ade := a, plc := p, out := s.out ++ x.switchSent k (s.ftr.get k).mode }

theorem completes_afterSample {a : Four Ade} {p : Plc} (steady : s.steady)
    (takes : ({ s with out := [] } : State).takeSample k x = ({ s with out := [] } : State).afterSample k x a p) {P : State → Prop}
    (h : P (({ s with out := [] } : State).afterSample k x a p)) : Completes (.sample k x) s P := by
  refine completes_event (f := fun s => s.takeSample k x) rfl steady.1 ?_
  have still : (({ s with out := [] } : State).afterSample k x a p).startTransmitters = ({ s with out := [] } : State).afterSample k x a p :=
    State.settled_same steady.2 rfl rfl
  rw [takes, still]
  exact h

/-- Contexts with the short means of the recorded sample have it handed on (R46). -/
theorem State.afterSample_hands {a : Four Ade} {p : Plc} (mean : ∀ u, (a.get u).shortMean = ((s.sampled k x).ade.get u).shortMean) :
    (s.afterSample k x a p).HandsShortMean k ∧ (s.sampled k x).ade = s.adeBut (s.afterSample k x a p) k := by
  have link : ∀ j, (s.afterSample k x a p).isLocked j = (s.sampled k x).isLocked j := fun j => by
    rw [State.isLocked, show (s.afterSample k x a p).link j = s.link j from s.counted_link _ j]
    rfl
  have same : ∀ u, (s.afterSample k x a p).unitShortMean u = (s.sampled k x).unitShortMean u :=
    State.unitShortMean_congr rfl link fun _ => rfl
  have handed : ∀ u, s.unitOf k = some u → (a.get u).shortMean = (s.sampled k x).unitShortMean u := fun u unit => by
    rw [mean, State.sampled_ade, unit]
    simp
  refine ⟨State.handsShortMean_of fun u unit => ?_, ?_⟩
  · rw [same]
    exact handed u unit
  · rw [State.sampled_ade, State.adeBut]
    cases unit : s.unitOf k with
    | none => rfl
    | some u =>
      simp only [← handed u unit]
      rfl

/-! ## The emergency test (R51–R54, R72) -/

theorem State.emergencyHolds_profile {u : UnitId} (h : s.emergencyHolds u = true) : (s.ade.get u).rxProfile ≠ 0 := by
  intro zero
  simp [State.emergencyHolds, State.indication, zero, Indication.holds] at h

/-- No emergency, or one that finds its unit in DROPPING, changes nothing (R72). -/
theorem State.testEmergency_calm (h : ∀ u, s.unitOf k = some u → s.emergencyHolds u = true → (s.ade.get u).state = .dropping) :
    s.testEmergency k = s := by
  unfold State.testEmergency
  split
  · rename_i u unit
    split
    · rename_i holds
      rw [Bool.and_eq_true] at holds
      exact if_pos (.inr (.inl (h u unit holds.2)))
    · rfl
  · rfl

theorem State.testEmergency_enters {u : UnitId} (locked : s.isLocked k = true) (unit : s.unitOf k = some u)
    (holds : s.emergencyHolds u = true) (state : (s.ade.get u).state ≠ .dropping) : s.testEmergency k = s.enterDropping u := by
  simp only [State.testEmergency, unit, locked, holds, Bool.and_self, if_pos]
  refine if_neg ?_
  rintro (none' | drops | zero)
  · exact absurd (none'.symm.trans holds) (by simp)
  · exact state drops
  · exact State.emergencyHolds_profile holds zero

/-- Whether an emergency holds depends on the tracker that the sample has left, not on the short mean handed on (R51–R53). -/
theorem State.sampled_emergencyHolds (u : UnitId) :
    (s.sampled k x).emergencyHolds u =
      ({ s with ftr := s.ftr.set k ((s.ftr.get k).sampled x) } : State).emergencyHolds u := by
  have profile : ((s.sampled k x).ade.get u).rxProfile = (s.ade.get u).rxProfile := State.handShortMean_profile _ _ _
  simp only [State.emergencyHolds, State.indication, profile]
  rfl

end

/-- Settles O22: by link state, a sample is discarded or recorded; in LOCKED the emergency test finds nothing to do. -/
theorem sampleIsRecordedOrDiscarded : Obligations.SampleIsRecordedOrDiscarded := by
  intro k x s steady
  have discarded (h : (s.link k ≠ .acquire ∧ s.link k ≠ .locked) ∨ ¬x.inRange) :
      Completes (.sample k x) s fun t => t = { s with out := [] } := by
    refine completes_event (f := fun s => s.takeSample k x) rfl steady.1 ?_
    rw [State.takeSample_discards (s := { s with out := [] }) h]
    exact State.settled_same steady.2 rfl rfl
  have recorded (takes : ({ s with out := [] } : State).takeSample k x =
      (({ s with out := [] } : State).sampled k x).setClc k (·.sampleRuns (x.aligns (s.ftr.get k).mode))) :
      Completes (.sample k x) s fun t =>
        t = ({ s with out := [] } : State).afterSample k x (s.adeBut t k) s.plc ∧ t.HandsShortMean k := by
    obtain ⟨hands, ade⟩ := State.afterSample_hands (s := { s with out := [] }) (k := k) (x := x) (p := s.plc) fun _ => rfl
    refine completes_afterSample steady takes ⟨?_, hands⟩
    exact congrArg (({ s with out := [] } : State).afterSample k x · s.plc) ade
  refine ⟨fun acquire locked => discarded (.inl ⟨acquire, locked⟩), fun range => discarded (.inr range), fun link valid short => ?_,
    fun link valid kept header calm => ?_⟩
  · exact recorded (State.takeSample_acquire (s := { s with out := [] }) link valid short)
  · have takes := State.takeSample_stays (s := { s with out := [] }) link valid kept header
    rw [State.testEmergency_calm fun u unit holds => ?_] at takes
    · exact recorded takes
    · rw [State.sampled_emergencyHolds] at holds
      rw [State.sampled_state]
      exact calm u unit holds

/-! ## Entering DROPPING (R72) -/

/-- What the removal of a unit's RX_PROFILE entries may do to its context: a unit in PROPOSING returns to STEADY (R71). -/
def Ade.Released (g : Ade → Ade) : Prop := ∀ a, g a = a ∨ (a.state = .proposing ∧ g a = { a with state := .steady })

theorem Entry.isRxOf_iff {u : UnitId} {e : Entry} : e.isRxOf u = true ↔ ∃ q, e.change = .rxProfile u q := by
  cases change : e.change <;> simp [Entry.isRxOf, change]

theorem State.afterRemoval_rx {u : UnitId} {e : Entry} (rx : e.isRxOf u = true) (s : State) : s.afterRemoval e = s.endProposing u := by
  obtain ⟨q, change⟩ := Entry.isRxOf_iff.1 rx
  rw [State.afterRemoval, change]

/-- What the removal of a unit's RX_PROFILE entries does beside the plan touches the unit's context alone (R71). -/
theorem State.afterRemovals_rx {u : UnitId} {es : List Entry} (rx : ∀ e ∈ es, e.isRxOf u = true) (s : State) :
    ∃ g, Ade.Released g ∧ es.foldl State.afterRemoval s = s.setAde u g := by
  induction es generalizing s with
  | nil => exact ⟨fun a => a, fun _ => .inl rfl, by simp [State.setAde]⟩
  | cons e es ih =>
    obtain ⟨g, released, rest⟩ := ih (fun x hx => rx x (by simp [hx])) (s.endProposing u)
    refine ⟨fun a => g (if a.state = .proposing then { a with state := .steady } else a), fun a => ?_, ?_⟩
    · dsimp only
      split
      · rename_i proposing
        obtain same | ⟨steady, -⟩ := released { a with state := .steady }
        · exact .inr ⟨proposing, same⟩
        · cases steady
      · exact released a
    · rw [List.foldl_cons, State.afterRemoval_rx (rx e (by simp)), rest]
      simp [State.setAde, State.endProposing, Four.modify]

theorem Entry.isRx_of_isRxOf {u : UnitId} {e : Entry} (h : e.isRxOf u = true) : e.isRx = true := by
  obtain ⟨q, change⟩ := Entry.isRxOf_iff.1 h
  simp [Entry.isRx, change]

/-- The part without unit `u`'s RX_PROFILE entries, its context changed by `g`. -/
def State.withoutRx (s : State) (u : UnitId) (g : Ade → Ade) : State :=
  { s with ade := s.ade.modify u g, plc := { s.plc with plan := s.plc.plan.filter fun e => !e.isRxOf u } }

/-- The removal of a unit's RX_PROFILE entries, which raises no PLAN (R71, R103). -/
theorem State.removeEntries_rx (s : State) (u : UnitId) : ∃ g, Ade.Released g ∧ s.removeEntries (Entry.isRxOf u) =
    (s.withoutRx u g).formCapacity := by
  have silent : s.eraseEntries (Entry.isRxOf u) = { s with plc := { s.plc with plan := s.plc.plan.filter fun e => !e.isRxOf u } } := by
    refine if_neg ?_
    simp only [List.any_filter, List.any_eq_true, not_exists]
    rintro e ⟨-, h⟩
    simp only [Bool.and_eq_true, Entry.capacityChanging, Bool.not_eq_true'] at h
    exact absurd (Entry.isRx_of_isRxOf h.1) (by simp [h.2])
  obtain ⟨g, released, rest⟩ := State.afterRemovals_rx (u := u) (es := s.plc.plan.filter (Entry.isRxOf u))
    (fun e he => (List.mem_filter.1 he).2) (s.eraseEntries (Entry.isRxOf u))
  refine ⟨g, released, ?_⟩
  rw [State.removeEntries, rest, silent]
  rfl

theorem State.formCapacity_same {s : State} (law : s.sched.capacity = s.capacityNow) : s.formCapacity = s := if_pos law.symm

/-- The context of a unit that enters DROPPING (R72). -/
def Ade.dropping (a : Ade) : Ade := { a with ask := none, upDwell := 0, state := .dropping }

/-- Entering DROPPING under the capacity law: the unit's context and its RX_PROFILE entries, nothing else (R72). -/
theorem State.enterDropping_eq {s : State} (law : s.sched.capacity = s.capacityNow) (u : UnitId) :
    s.enterDropping u = s.withoutRx u Ade.dropping := by
  obtain ⟨g, released, removed⟩ := s.removeEntries_rx u
  have overwritten : ∀ a, (g a).dropping = a.dropping := fun a => by
    obtain same | ⟨-, steady⟩ := released a
    · rw [same]
    · rw [steady]
      rfl
  have now : (s.withoutRx u g).sched.capacity = (s.withoutRx u g).capacityNow :=
    law.trans (State.capacityNow_congr rfl (fun _ => rfl) rfl rfl rfl).symm
  show (s.removeEntries (Entry.isRxOf u)).setAde u Ade.dropping = _
  rw [removed, State.formCapacity_same now]
  simp [State.withoutRx, State.setAde, Four.modify, overwritten]

/-- Settles O25: the recorded sample's emergency enters DROPPING. -/
theorem emergencyEntersDropping : Obligations.EmergencyEntersDropping := by
  rintro k u x s steady link unit valid kept header state holds ⟨-, law⟩
  have enters : (({ s with out := [] } : State).sampled k x).testEmergency k = (({ s with out := [] } : State).sampled k x).enterDropping u :=
    State.testEmergency_enters (beq_iff_eq.2 link) unit ((State.sampled_emergencyHolds u).trans holds)
      (by rw [State.sampled_state]; exact state)
  have capacity : (({ s with out := [] } : State).sampled k x).sched.capacity = (({ s with out := [] } : State).sampled k x).capacityNow :=
    law.trans (State.capacityNow_eq _).symm
  have takes := State.takeSample_stays (s := { s with out := [] }) link valid kept header
  rw [enters, State.enterDropping_eq capacity] at takes
  obtain ⟨hands, ade⟩ := State.afterSample_hands (s := { s with out := [] }) (k := k) (x := x)
    (a := (({ s with out := [] } : State).sampled k x).ade.modify u Ade.dropping)
    (p := { s.plc with plan := s.plc.plan.filter fun e => !e.isRxOf u }) fun v => by
      rw [Four.get_modify]
      split <;> rfl
  refine completes_afterSample steady takes ⟨?_, hands, rfl, rfl⟩
  exact congrArg (·.modify u Ade.dropping) ade

end Sys2Proof.Machine
end

section
/-! SUPPORT. What the parts of a superframe boundary keep where every expiry is left to a step of its own and no entry applies (R2,
R46, R62; logs 1 and 2). -/

namespace Sys2Proof.Machine

/-! ## What every part keeps -/

/-- What every part of such a boundary keeps: settings, view, HSN and link states; nothing due, waiting or counted is lost, and still no
entry applies. -/
structure State.Advances (s t : State) : Prop where
  settings : t.settings = s.settings
  peer : t.peer = s.peer
  hsn : t.htu.hsn = s.htu.hsn
  link : ∀ j, t.link j = s.link j
  due : ∀ e ∈ s.due, e ∈ t.due
  waits : ∀ j m, s.Awaits j m → t.Awaits j m
  counts : ∀ u, s.linkCounts u = true → t.linkCounts u = true
  quiet : s.noneDue s.htu.hsn → t.noneDue t.htu.hsn

theorem State.Advances.refl (s : State) : s.Advances s :=
  ⟨rfl, rfl, rfl, fun _ => rfl, fun _ h => h, fun _ _ h => h, fun _ h => h, fun h => h⟩

theorem State.Advances.trans {s t v : State} (h : s.Advances t) (k : t.Advances v) : s.Advances v where
  settings := k.settings.trans h.settings
  peer := k.peer.trans h.peer
  hsn := k.hsn.trans h.hsn
  link j := (k.link j).trans (h.link j)
  due e he := k.due e (h.due e he)
  waits j m w := k.waits j m (h.waits j m w)
  counts u c := k.counts u (h.counts u c)
  quiet q := k.quiet (h.quiet q)

/-- LINK entries that stay in the plan go on counting (R65). -/
theorem State.linkCounts_of {s t : State} (settings : t.settings = s.settings)
    (plan : ∀ e ∈ s.plc.plan, e.link? ≠ none → ∃ e' ∈ t.plc.plan, e'.change = e.change) {u : UnitId} (h : s.linkCounts u = true) :
    t.linkCounts u = true := by
  simp only [State.linkCounts, List.any_eq_true, Bool.and_eq_true] at h ⊢
  obtain ⟨e, mem, isLink, counted⟩ := h
  obtain ⟨e', mem', change⟩ := plan e mem fun none' => by simp [none'] at isLink
  have link : e'.link? = e.link? := by simp only [Entry.link?, change]
  have unit : t.unitOfChange e'.change = s.unitOfChange e.change := by
    simp only [change, State.unitOfChange, State.unitOf, State.role, settings]
  exact ⟨e', mem', by rwa [link], by rwa [unit]⟩

/-- A change of state that leaves settings, view, service queues and plan alone, changes no link state and loses nothing due. -/
theorem State.Advances.of {s t : State} {c : Four Clc} {f : Four Ftr} {a : Four Ade} {r : Nat} {b : Pbu} {m : Cpm} {x : Sched}
    {l : Four Tli} {d : List Expiry} {o : List Output} {g : Tag}
    (shape : t = { s with clc := c, ftr := f, ade := a, askTag := g, htu := { s.htu with recovery := r }, pbu := b, cpm := m,
                          sched := x, links := l, due := d, out := o })
    (link : ∀ j, (c.get j).link = s.link j) (due : ∀ e ∈ s.due, e ∈ d) : s.Advances t := by
  subst shape
  exact ⟨rfl, rfl, rfl, link, due, fun _ _ h => h, fun _ h => h, fun h => h⟩

/-! ## What a part keeps of the units that are not its own -/

/-- A part that is unit `v`'s own, or no unit's, leaves the trackers, and of every other unit the context and the RX_PROFILE entries. -/
structure State.Works (v : Option UnitId) (s t : State) : Prop extends State.Advances s t where
  ftr : t.ftr = s.ftr
  ade : ∀ u, v ≠ some u → t.ade.get u = s.ade.get u
  rx : ∀ u, v ≠ some u → t.plc.plan.filter (Entry.isRxOf u) = s.plc.plan.filter (Entry.isRxOf u)

section
variable {v : Option UnitId}

theorem State.Works.refl (s : State) : s.Works v s := ⟨.refl s, rfl, fun _ _ => rfl, fun _ _ => rfl⟩

theorem State.Works.trans {s t w : State} (h : s.Works v t) (k : t.Works v w) : s.Works v w :=
  ⟨h.toAdvances.trans k.toAdvances, k.ftr.trans h.ftr, fun u o => (k.ade u o).trans (h.ade u o), fun u o => (k.rx u o).trans (h.rx u o)⟩

/-- A part without a unit of its own that touches neither contexts nor service queues nor plan. -/
theorem State.Works.of {s t : State} {c : Four Clc} {r : Nat} {b : Pbu} {m : Cpm} {x : Sched} {l : Four Tli} {d : List Expiry}
    (shape : t = { s with clc := c, htu := { s.htu with recovery := r }, pbu := b, cpm := m, sched := x, links := l, due := d })
    (link : ∀ j, (c.get j).link = s.link j) (due : ∀ e ∈ s.due, e ∈ d) : s.Works v t :=
  ⟨.of (f := s.ftr) (a := s.ade) (g := s.askTag) (o := s.out) shape link due, by rw [shape], fun _ _ => by rw [shape],
    fun _ _ => by rw [shape]⟩

theorem State.OnlyQueues.works {s t : State} (h : s.OnlyQueues t) : s.Works v t := by
  obtain ⟨x, l, e⟩ := h
  exact .of (c := s.clc) (r := s.htu.recovery) (b := s.pbu) (m := s.cpm) (d := s.due) e (fun _ => rfl) fun _ h => h

theorem foldl_works {α : Type} {f : State → α → State} (h : ∀ (s : State) x, s.Works v (f s x)) (xs : List α) (s : State) :
    s.Works v (xs.foldl f s) := foldl_covered (State.Works v) .refl .trans f h xs s

/-- An expiry left to a step of its own (log 2). -/
theorem expire_works (e : Expiry) (s : State) : s.Works v (expire true e s) :=
  .of (c := s.clc) (r := s.htu.recovery) (b := s.pbu) (m := s.cpm) (x := s.sched) (l := s.links) rfl (fun _ => rfl) fun _ h =>
    List.mem_append_left _ h

theorem expireIf_works (c : Bool) (e : Expiry) (s : State) : s.Works v (expireIf true c e s) := by
  unfold expireIf
  split
  · exact expire_works e s
  · exact .refl s

theorem State.setClc_works (s : State) (k : CarrierId) {f : Clc → Clc} (link : ∀ c, (f c).link = c.link) : s.Works v (s.setClc k f) := by
  refine .of (r := s.htu.recovery) (b := s.pbu) (m := s.cpm) (x := s.sched) (l := s.links) (d := s.due) rfl (fun j => ?_) fun _ h => h
  rw [Four.get_modify]
  split
  · exact link _
  · rfl

/-- A message that waits goes on waiting when another is offered (R15). -/
theorem State.Awaits.offered {s t : State} {j a : CarrierId} {m n : Message} (h : s.Awaits j m) (scu : t.scu = s.offered a n) :
    t.Awaits j m := by
  unfold State.Awaits at h ⊢
  rw [scu, State.offered, Four.get_modify]
  split
  · split
    · rename_i space
      exact .inl (List.mem_append_left _ (h.resolve_right (Nat.not_le.2 space)))
    · exact h
  · exact h

/-- A LINK request brings no entry that applies (R83). -/
theorem State.linkRequest_works (s : State) (c : LinkChange) : s.Works v (s.linkRequest c) := by
  cases refused : s.linkRefused c with
  | true =>
    rw [State.linkRequest_refused refused]
    exact .refl s
  | false =>
    cases anchor : s.htu.anchor with
    | none => simp [State.linkRefused, State.hopUp, anchor] at refused
    | some a =>
      obtain ⟨l, e, -⟩ := State.linkRequest_accepted anchor refused
      rw [e]
      refine ⟨⟨rfl, rfl, rfl, fun _ => rfl, fun _ h => h, fun j m w => w.offered rfl, fun u h => ?_, fun none' x hx => ?_⟩, rfl,
        fun _ _ => rfl, fun u _ => ?_⟩
      · refine State.linkCounts_of (s := s) (t := { s with plc := { s.plc with plan := s.plc.plan ++ [s.requestEntry c] } }) rfl ?_ h
        exact fun x hx _ => ⟨x, List.mem_append_left _ hx, rfl⟩
      · rcases List.mem_append.1 hx with old | new
        · exact none' x old
        · rw [List.mem_singleton.1 new]
          intro _ agreed
          cases agreed
      · rw [List.filter_append]
        simp [State.requestEntry, Entry.isRxOf]

/-! ## Controllers, hop recovery, power, lanes, pool -/

theorem State.clcBoundary_works (began : Four LinkState) (s : State) (k : CarrierId) : s.Works v (s.clcBoundary true began k) := by
  unfold State.clcBoundary
  dsimp only
  split
  · exact .refl s
  · split
    · split
      · exact .refl s
      · refine .trans ?_ (State.formCapacity_only _).works
        exact s.setClc_works k fun _ => rfl
    · refine .trans ?_ (expireIf_works _ _ _)
      exact s.setClc_works k fun _ => rfl
    · refine .trans ?_ (expireIf_works _ _ _)
      exact s.setClc_works k fun _ => rfl
    · refine .trans ?_ (expireIf_works _ _ _)
      exact s.setClc_works k fun _ => rfl
    · split
      · refine .trans ?_ (expireIf_works _ _ _)
        exact s.setClc_works k fun _ => rfl
      · exact .refl s
    · exact .refl s

theorem State.recoveryBoundary_works (s : State) : s.Works v (s.recoveryBoundary true) := by
  unfold State.recoveryBoundary
  split
  · exact .refl s
  · refine .trans ?_ (expireIf_works _ _ _)
    exact .of (c := s.clc) (b := s.pbu) (m := s.cpm) (x := s.sched) (l := s.links) (d := s.due) rfl (fun _ => rfl) fun _ h => h

theorem State.powerBoundary_works (s : State) : s.Works v (s.powerBoundary true) := by
  refine .trans ?_ (expireIf_works _ _ _)
  exact .of (c := s.clc) (r := s.htu.recovery) (m := s.cpm) (x := s.sched) (l := s.links) (d := s.due) rfl (fun _ => rfl) fun _ h => h

theorem State.setCpm_works (s : State) (m : Cpm) : s.Works v { s with cpm := m } :=
  .of (c := s.clc) (r := s.htu.recovery) (b := s.pbu) (x := s.sched) (l := s.links) (d := s.due) rfl (fun _ => rfl) fun _ h => h

theorem State.unbindBoundary_only (s : State) : s.OnlyQueues s.unbindBoundary := by
  have h : s.OnlyQueues { s with sched := s.sched.unbindMarked.markEmpty } := ⟨_, s.links, rfl⟩
  unfold State.unbindBoundary
  dsimp only
  split
  · exact h.trans (State.refill_only _).queues
  · exact h

theorem State.laneBoundary_works (s : State) : s.Works v (s.laneBoundary true) := by
  have ticked : s.unbindBoundary.OnlyQueues { s.unbindBoundary with sched := s.unbindBoundary.sched.tickLanes } :=
    ⟨_, s.unbindBoundary.links, rfl⟩
  refine ((s.unbindBoundary_only.trans ticked).works.trans ?_).trans (State.setCpm_works _ _)
  exact foldl_works (fun s _ => expire_works _ s) _ _

theorem State.poolExpiries_works (old s : State) : s.Works v (State.poolExpiries true old s) :=
  ((foldl_works (fun s _ => expireIf_works _ _ s) _ s).trans
    (foldl_works (fun s _ => expireIf_works _ _ s) _ _)).trans
    (foldl_works (fun s _ => expireIf_works _ _ s) _ _)

theorem State.requestPromote_works (s : State) (k : CarrierId) : s.Works v (s.requestPromote k) := by
  unfold State.requestPromote
  split
  · split
    · exact s.linkRequest_works _
    · exact .refl s
  · exact .refl s

theorem State.requestRevert_works (s : State) (r : Substitution) (b : Bool) : s.Works v (s.requestRevert r b) := by
  unfold State.requestRevert
  split
  · exact s.linkRequest_works _
  · exact .refl s

theorem State.limitPark_works (s : State) (k : CarrierId) : s.Works v (s.limitPark k) := by
  unfold State.limitPark
  split
  · exact s.linkRequest_works _
  · exact .refl s

theorem State.requestWake_works (s : State) : s.Works v s.requestWake := by
  unfold State.requestWake
  split
  · exact .refl s
  · split
    · exact s.linkRequest_works _
    · exact .refl s

theorem State.poolRequests_works (s : State) (dwell : Substitution → Bool) : s.Works v (s.poolRequests dwell) := by
  have parks : s.Works v (if s.pbu.settling then s.limitParks else s) := by
    split
    · exact foldl_works State.limitPark_works _ s
    · exact .refl s
  have promotes := parks.trans (foldl_works State.requestPromote_works ids _)
  unfold State.poolRequests
  exact (promotes.trans (foldl_works (fun s r => s.requestRevert_works r _) _ _)).trans (State.requestWake_works _)

theorem State.idleBoundary_works (s : State) : s.Works v (s.idleBoundary true) := by
  unfold State.idleBoundary
  split
  · split
    · exact expire_works _ s
    · unfold State.idlePark
      split
      · exact s.linkRequest_works _
      · exact .refl s
  · exact .refl s

theorem State.poolBoundary_works (s : State) : s.Works v (s.poolBoundary true) := by
  have counts : s.Works v s.poolCounts := s.setCpm_works _
  have requested := (counts.trans (State.poolExpiries_works s s.poolCounts)).trans
    (State.poolRequests_works _ (State.poolExpiries true s s.poolCounts).dwellInside)
  exact requested.trans (State.idleBoundary_works _)

/-! ## Plan Controller and Transmit Scheduler -/

theorem mem_insertByKey {now : Hsn} {e x : Entry} {es : List Entry} (h : x ∈ insertByKey now e es) : x = e ∨ x ∈ es := by
  induction es with
  | nil => simpa [insertByKey] using h
  | cons y ys ih =>
    unfold insertByKey at h
    split at h
    · simpa using h
    · rcases List.mem_cons.1 h with same | rest
      · exact .inr (by simp [same])
      · exact (ih rest).imp id (List.mem_cons_of_mem _)

/-- The plan in plan order holds no entry but the plan's (R79). -/
theorem mem_of_mem_planOrder {now : Hsn} {x : Entry} {es : List Entry} (h : x ∈ planOrder now es) : x ∈ es := by
  have all : ∀ (es acc : List Entry), x ∈ es.foldl (fun acc e => insertByKey now e acc) acc → x ∈ acc ∨ x ∈ es := by
    intro es
    induction es with
    | nil => exact fun acc h => .inl h
    | cons e es ih =>
      intro acc h
      rcases ih _ h with old | rest
      · exact (mem_insertByKey old).elim (fun same => .inr (by simp [same])) .inl
      · exact .inr (List.mem_cons_of_mem _ rest)
  exact (all es [] h).resolve_left (by simp)

/-- Where no entry is due, none is applied (R95). -/
theorem State.applyDue_none {s : State} {h : Hsn} (none' : s.noneDue h) : s.applyDue h = s := by
  have nothing : (planOrder s.htu.hsn s.plc.plan).find? (Entry.dueAt h) = none := by
    rw [List.find?_eq_none]
    intro e mem due
    simp only [Entry.dueAt, Bool.and_eq_true, Bool.not_eq_true', beq_iff_eq] at due
    obtain ⟨⟨rx, agreed⟩, target⟩ := due
    exact none' e (mem_of_mem_planOrder mem) rx agreed target
  unfold State.applyDue
  cases s.plc.plan.length with
  | zero => rfl
  | succ n => rw [State.applyUpTo, nothing]

theorem State.scheduleBoundary_works {s : State} (none' : s.noneDue s.htu.hsn) : s.Works v s.scheduleBoundary := by
  have renewed : s.OnlyQueues s.renewCredits := ⟨_, s.links, rfl⟩
  unfold State.scheduleBoundary
  rw [State.applyDue_none none']
  exact (renewed.trans (State.refill_only _).queues).works

end

end Sys2Proof.Machine
end

section
/-! The boundary at the Adaptation Engine and the Fade Trackers (R45–R49, R61–R67, R71, R74). -/

namespace Sys2Proof.Machine

/-! ## Asks and proposals (R67, R71, R81) -/

theorem State.setAde_works (s : State) (u : UnitId) (f : Ade → Ade) : s.Works (some u) (s.setAde u f) :=
  ⟨.of (c := s.clc) (f := s.ftr) (g := s.askTag) (r := s.htu.recovery) (b := s.pbu) (m := s.cpm) (x := s.sched) (l := s.links)
      (d := s.due) (o := s.out) rfl (fun _ => rfl) fun _ h => h, rfl,
    fun _ other => Four.get_modify_of_ne _ _ fun same => other (by rw [same]), fun _ _ => rfl⟩

theorem State.offerAsk_works (s : State) (u : UnitId) (c : CarrierId) (n : Int) : s.Works (some u) (s.offerAsk u c n) := by
  refine .trans (t := { s with askTag := s.askTag + 1, scu := s.offered (s.serviceCarrier u) (.powerAsk s.askTag c n) }) ?_
    (State.setAde_works _ u _)
  exact ⟨⟨rfl, rfl, rfl, fun _ => rfl, fun _ h => h, fun _ _ w => w.offered rfl, fun _ h => h, fun h => h⟩, rfl, fun _ _ => rfl,
    fun _ _ => rfl⟩

/-- The entry of a proposal of profile `q` for unit `u` (R81). -/
def State.proposal (s : State) (u : UnitId) (q : Nat) : Entry := ⟨s.plc.nextTag, .rxProfile u q, none, .local, .proposed, 0⟩

/-- A proposal: the unit's RX_PROFILE entries give way to it, its PROPOSE is offered, the unit is in PROPOSING (R71, R81). -/
theorem State.proposeProfile_shape (s : State) (u : UnitId) (q : Nat) : ∃ g x l, Ade.Released g ∧ s.proposeProfile u q = { s with
    ade := (s.ade.modify u g).modify u fun a => { a with upDwell := 0, state := .proposing }
    plc := { s.plc with plan := (s.plc.plan.filter fun e => !e.isRxOf u) ++ [s.proposal u q], nextTag := s.plc.nextTag + 1 }
    scu := s.offered (s.serviceCarrier u) (.proposeRx s.plc.nextTag u q), sched := x, links := l } := by
  obtain ⟨g, released, removed⟩ := s.removeEntries_rx u
  obtain ⟨x, l, formed⟩ := (s.withoutRx u g).formCapacity_only
  obtain ⟨l', added⟩ := ((({ s.withoutRx u g with sched := x, links := l } : State).bumpTag).setPlc fun p =>
    { p with plan := p.plan ++ [s.proposal u q] }).planFlag_only [s.proposal u q]
  refine ⟨g, x, l', released, ?_⟩
  have entered : (({ s.withoutRx u g with sched := x, links := l } : State).bumpTag).addEntry (s.proposal u q) =
      { s.withoutRx u g with sched := x, links := l', plc := { s.plc with
          plan := (s.plc.plan.filter fun e => !e.isRxOf u) ++ [s.proposal u q], nextTag := s.plc.nextTag + 1 } } := added
  unfold State.proposeProfile
  rw [removed, formed]
  dsimp only
  rw [show (⟨({ s.withoutRx u g with sched := x, links := l } : State).plc.nextTag, .rxProfile u q, none, .local, .proposed, 0⟩ : Entry) =
    s.proposal u q from rfl, entered]
  rfl

theorem Entry.isRxOf_other {u v : UnitId} {e : Entry} (h : e.isRxOf u = true) (other : v ≠ u) : e.isRxOf v = false := by
  obtain ⟨q, change⟩ := Entry.isRxOf_iff.1 h
  simp [Entry.isRxOf, change, other.symm]

theorem State.proposal_isRxOf (s : State) (u v : UnitId) (q : Nat) : (s.proposal u q).isRxOf v = (u == v) := rfl

theorem State.proposeProfile_works (s : State) (u : UnitId) (q : Nat) : s.Works (some u) (s.proposeProfile u q) := by
  obtain ⟨g, x, l, -, e⟩ := s.proposeProfile_shape u q
  refine ⟨⟨by rw [e], by rw [e], by rw [e], fun _ => by rw [e]; rfl, fun _ h => by rw [e]; exact h,
    fun j m w => w.offered (by rw [e]), fun v h => ?_, fun none' y hy => ?_⟩, by rw [e], fun v other => ?_, fun v other => ?_⟩
  · refine State.linkCounts_of (s := s) (by rw [e]) (fun y hy link => ⟨y, ?_, rfl⟩) h
    rw [e]
    refine List.mem_append_left _ (List.mem_filter.2 ⟨hy, ?_⟩)
    cases rx : y.isRxOf u with
    | false => rfl
    | true => exact absurd (Entry.isRxOf_link rx) link
  · rw [e] at hy ⊢
    rcases List.mem_append.1 hy with old | new
    · exact none' y (List.mem_of_mem_filter old)
    · rw [List.mem_singleton.1 new]
      intro rx
      cases rx
  · have apart : v ≠ u := fun same => other (by rw [same])
    rw [e]
    exact (Four.get_modify_of_ne _ _ apart).trans (Four.get_modify_of_ne _ _ apart)
  · have apart : u ≠ v := fun same => other (by rw [same])
    rw [e]
    show ((s.plc.plan.filter fun e => !e.isRxOf u) ++ [s.proposal u q]).filter (Entry.isRxOf v) = _
    rw [List.filter_append, List.filter_filter]
    have kept : ∀ y : Entry, (y.isRxOf v && !y.isRxOf u) = y.isRxOf v := fun y => by
      cases rx : y.isRxOf v with
      | false => rfl
      | true => simp [Entry.isRxOf_other rx apart]
    simp [kept, State.proposal_isRxOf, apart]

/-! ## The decision (R64–R66) -/

theorem State.powerDown_works (s : State) (u : UnitId) (c : CarrierId) (m : Nat) : s.Works (some u) (s.powerDown u c m) := by
  unfold State.powerDown
  dsimp only
  split
  · exact s.offerAsk_works u c _
  · exact .refl s

theorem State.decideUnit_works (s : State) (u : UnitId) : s.Works (some u) (s.decideUnit u) := by
  unfold State.decideUnit
  split
  · dsimp only
    split
    · split
      · unfold State.deficit
        dsimp only
        split
        · exact s.offerAsk_works u _ _
        · split
          · exact s.proposeProfile_works u _
          · exact .refl s
      · unfold State.surplus
        dsimp only
        split
        · split
          · split
            · exact s.proposeProfile_works u _
            · exact .refl s
          · exact s.powerDown_works u _ _
        · exact s.powerDown_works u _ _
        · exact s.powerDown_works u _ _
        · exact .refl s
    · exact .refl s
  · exact .refl s

/-! ## The counts (R46, R62, R63) -/

/-- Unit `u` once the boundary has formed its mean and moved its counts, before its decision, with the expiries that the counts bring
(R62, R63, R74). -/
def State.ticked (s : State) (u : UnitId) : State :=
  let y := expireIf true (true && (s.ade.get u).dropHold == 1) (.dropHold u) (s.tickUnit u)
  expireIf true (true && (s.ade.get u).upDwell < ((s.tickUnit u).ade.get u).upDwell &&
    ((s.tickUnit u).ade.get u).upDwell == y.settings.upDwell) (.upDwell u) y

theorem State.tickUnit_works (s : State) (u : UnitId) : s.Works (some u) (s.tickUnit u) := by
  unfold State.tickUnit
  dsimp only
  split
  · exact (s.setAde_works u _).trans (State.setAde_works _ u _)
  · exact s.setAde_works u _

theorem State.ticked_works (s : State) (u : UnitId) : s.Works (some u) (s.ticked u) :=
  ((s.tickUnit_works u).trans (expireIf_works _ _ _)).trans (expireIf_works _ _ _)

/-- An expiry left to a step of its own changes the list of those left, and nothing else (log 2). -/
theorem expireIf_shape (c : Bool) (e : Expiry) (s : State) : ∃ d, expireIf true c e s = { s with due := d } := by
  unfold expireIf
  split <;> exact ⟨_, rfl⟩

theorem mem_expireIf_due {c : Bool} {e : Expiry} {s : State} (h : c = true) : e ∈ (expireIf true c e s).due := by
  rw [expireIf, if_pos h]
  exact List.mem_append_right _ (List.mem_singleton_self e)

theorem State.ticked_shape (s : State) (u : UnitId) : ∃ d, s.ticked u = { s.tickUnit u with due := d } := by
  unfold State.ticked
  dsimp only
  obtain ⟨d, first⟩ := expireIf_shape (true && (s.ade.get u).dropHold == 1) (.dropHold u) (s.tickUnit u)
  rw [first]
  exact expireIf_shape _ _ _

/-- The boundary at the Adaptation Engine: an ask that has waited two boundaries falls due, else the unit decides (R62, R69). -/
theorem State.adaptBoundary_eq (s : State) (u : UnitId) : s.adaptBoundary true u =
    if (s.ticked u).askExpired u then expire true (.ask u) (s.ticked u) else (s.ticked u).decideUnit u := rfl

theorem State.adaptBoundary_works (s : State) (u : UnitId) : s.Works (some u) (s.adaptBoundary true u) := by
  rw [State.adaptBoundary_eq]
  split
  · exact (s.ticked_works u).trans (expire_works _ _)
  · exact (s.ticked_works u).trans (State.decideUnit_works _ u)

theorem State.ticked_adaptBoundary_works (s : State) (u : UnitId) : (s.ticked u).Works (some u) (s.adaptBoundary true u) := by
  rw [State.adaptBoundary_eq]
  split
  · exact expire_works _ _
  · exact State.decideUnit_works _ u

/-- Without a LOCKED member the drop hold count alone moves, beside the mean (R62). -/
theorem State.ticked_unlocked {s : State} {u : UnitId} (locked : s.unitLocked u = false) :
    (s.ticked u).ade.get u = { s.ade.get u with dropHold := (s.ade.get u).dropHold - 1, mean := s.formMean u } := by
  obtain ⟨d, e⟩ := s.ticked_shape u
  rw [e]
  simp [State.tickUnit, locked, Ade.tick]

/-- With a LOCKED member the counts of steps 1 to 3 of R62 move. -/
theorem State.ticked_locked {s : State} {u : UnitId} (locked : s.unitLocked u = true) :
    (s.ticked u).ade.get u = s.stepped (s.ade.get u) (s.formMean u) := by
  obtain ⟨d, e⟩ := s.ticked_shape u
  rw [e]
  simp only [State.tickUnit, locked, if_pos, State.setAde_ade, Four.get_modify_self, State.setAde_settings, State.governing, Ade.tick]
  cases h : s.formMean u <;> simp [State.stepped, Settings.nextUpDwell, Settings.clearsNext]

/-! ## The means at the close (R45, R46) -/

/-- Last mean and number of samples of a tracker (R45). -/
def Ftr.closing (f : Ftr) : Option Nat × Nat := (f.lastMean, f.lastNumber)

theorem State.setCombiner_shape (s : State) (k : CarrierId) (m : Combiner) :
    ∃ o, s.setCombiner k m = { s.setFtr k (fun f => { f with mode := m, dwell := 0 }) with out := o } := by
  unfold State.setCombiner
  dsimp only
  split
  · exact ⟨s.out, rfl⟩
  · exact ⟨_, rfl⟩

/-- The boundary at a Fade Tracker closes its superframe, whatever mode it then takes (R45, R49). -/
theorem State.fadeBoundary_shape (s : State) (k : CarrierId) : ∃ g o d, s.fadeBoundary true k = { s.setFtr k g with out := o, due := d } ∧
    (∀ f, (g f).closing = f.close.closing) ∧ ∀ e ∈ s.due, e ∈ d := by
  have closed : ∃ g o, s.closeFade k = { s.setFtr k g with out := o } ∧ ∀ f, (g f).closing = f.close.closing := by
    unfold State.closeFade
    dsimp only
    split
    · rename_i m _
      split
      · obtain ⟨o, e⟩ := (s.setFtr k Ftr.close).setCombiner_shape k m
        refine ⟨fun f => { f.close with mode := m, dwell := 0 }, o, ?_, fun _ => rfl⟩
        rw [e]
        simp [State.setFtr, Four.modify]
      · exact ⟨Ftr.close, s.out, rfl, fun _ => rfl⟩
    · exact ⟨Ftr.close, s.out, rfl, fun _ => rfl⟩
  obtain ⟨g, o, e, close⟩ := closed
  have kept := (expireIf_works (v := none) (true && (s.ftr.get k).dwell < 4 && ((s.closeFade k).ftr.get k).dwell == 4)
    (.branchDwell k) (s.closeFade k)).due
  obtain ⟨d, due⟩ := expireIf_shape (true && (s.ftr.get k).dwell < 4 && ((s.closeFade k).ftr.get k).dwell == 4)
    (.branchDwell k) (s.closeFade k)
  refine ⟨g, o, d, ?_, close, fun x hx => ?_⟩
  · show expireIf true _ _ _ = _
    rw [due, e]
  · rw [due, e] at kept
    exact kept x hx

theorem State.fadeBoundary_advances (s : State) (k : CarrierId) : s.Advances (s.fadeBoundary true k) := by
  obtain ⟨g, o, d, e, -, kept⟩ := s.fadeBoundary_shape k
  exact .of (c := s.clc) (a := s.ade) (g := s.askTag) (r := s.htu.recovery) (b := s.pbu) (m := s.cpm) (x := s.sched) (l := s.links) e
    (fun _ => rfl) kept

theorem State.fadeBoundary_own (s : State) (k : CarrierId) :
    ((s.fadeBoundary true k).ftr.get k).closing = (s.ftr.get k).close.closing := by
  obtain ⟨g, o, d, e, close, -⟩ := s.fadeBoundary_shape k
  rw [e]
  simp [close]

theorem State.fadeBoundary_other (s : State) {j k : CarrierId} (other : j ≠ k) : (s.fadeBoundary true k).ftr.get j = s.ftr.get j := by
  obtain ⟨g, o, d, e, -, -⟩ := s.fadeBoundary_shape k
  rw [e]
  exact Four.get_modify_of_ne _ _ other

/-- The four Fade Trackers close their superframes (R45). -/
theorem fadeBoundaries_closing (s : State) (j : CarrierId) :
    ((ids.foldl (State.fadeBoundary true) s).ftr.get j).closing = (s.ftr.get j).close.closing := by
  simp only [ids, List.foldl]
  fin_cases j <;> simp [State.fadeBoundary_own, State.fadeBoundary_other]

end Sys2Proof.Machine
end

section
/-! A unit's turn in the boundary: what stands before it, what the parts behind it keep (R2, R46, R62; log 1). -/

namespace Sys2Proof.Machine

/-! ## Parts in sequence -/

/-- The unit's RX_PROFILE entries are one: `e`, at an age of at most `n`. -/
def State.Stands (s : State) (u : UnitId) (e : Entry) (n : Nat) : Prop :=
  ∃ a ≤ n, s.plc.plan.filter (Entry.isRxOf u) = [{ e with age := a }]

/-- The parts `ps` of a boundary have run: without the Fade Trackers' part the trackers stay, without unit `u`'s own its context and its
one RX_PROFILE entry, which the Plan Controller ages. -/
structure State.Ran (u : UnitId) (ps : List BoundaryPart) (s t : State) : Prop extends State.Advances s t where
  ftr : .fade ∉ ps → t.ftr = s.ftr
  ade : .adapt u ∉ ps → t.ade.get u = s.ade.get u
  stands : .adapt u ∉ ps → ∀ e n, s.Stands u e n → t.Stands u e (n + ps.count .plan)

section
variable {u : UnitId}

theorem State.Ran.trans {ps qs : List BoundaryPart} {s t w : State} (h : s.Ran u ps t) (k : t.Ran u qs w) : s.Ran u (ps ++ qs) w where
  toAdvances := h.toAdvances.trans k.toAdvances
  ftr absent := by
    rw [List.mem_append, not_or] at absent
    exact (k.ftr absent.2).trans (h.ftr absent.1)
  ade absent := by
    rw [List.mem_append, not_or] at absent
    exact (k.ade absent.2).trans (h.ade absent.1)
  stands absent e n old := by
    rw [List.mem_append, not_or] at absent
    rw [List.count_append, ← Nat.add_assoc]
    exact k.stands absent.2 e _ (h.stands absent.1 e n old)

theorem State.Works.ran {v : Option UnitId} {ps : List BoundaryPart} {s t : State} (h : s.Works v t)
    (own : v = some u → .adapt u ∈ ps) : s.Ran u ps t where
  toAdvances := h.toAdvances
  ftr _ := h.ftr
  ade absent := h.ade u fun same => absent (own same)
  stands absent e n old := by
    obtain ⟨a, young, one⟩ := old
    exact ⟨a, by omega, (h.rx u fun same => absent (own same)).trans one⟩

theorem State.fade_ran (s : State) : s.Ran u [.fade] (ids.foldl (State.fadeBoundary true) s) := by
  have kept : ∀ x : State, ∀ k, (x.fadeBoundary true k).ade = x.ade ∧ (x.fadeBoundary true k).plc = x.plc := fun x k => by
    obtain ⟨g, o, d, e, -, -⟩ := x.fadeBoundary_shape k
    rw [e]
    exact ⟨rfl, rfl⟩
  have all : ∀ x : State, (ids.foldl (State.fadeBoundary true) x).ade = x.ade ∧ (ids.foldl (State.fadeBoundary true) x).plc = x.plc :=
    foldl_covered (fun x y => y.ade = x.ade ∧ y.plc = x.plc) (fun _ => ⟨rfl, rfl⟩)
      (fun h k => ⟨k.1.trans h.1, k.2.trans h.2⟩) _ kept ids
  obtain ⟨ade, plc⟩ := all s
  refine ⟨foldl_covered _ .refl .trans _ State.fadeBoundary_advances ids s, fun absent => absurd (List.mem_singleton_self _) absent,
    fun _ => by rw [ade], fun _ e n old => ?_⟩
  unfold State.Stands
  rw [plc]
  exact old

/-- The ages rise: every entry stays what it is (R92). -/
theorem State.agePlan_ran (s : State) : s.Ran u [.plan] s.agePlan := by
  refine ⟨⟨rfl, rfl, rfl, fun _ => rfl, fun _ h => h, fun _ _ h => h, fun v h => ?_, fun none' e he => ?_⟩, fun _ => rfl, fun _ => rfl,
    fun _ e n old => ?_⟩
  · refine State.linkCounts_of (s := s) (t := s.agePlan) rfl (fun e he _ => ?_) h
    exact ⟨_, List.mem_map_of_mem he, rfl⟩
  · obtain ⟨e', mem, rfl⟩ := List.mem_map.1 he
    exact none' e' mem
  · obtain ⟨a, young, one⟩ := old
    refine ⟨min (a + 1) 15, by simp; omega, ?_⟩
    show (s.plc.plan.map fun e => { e with age := min (e.age + 1) 15 }).filter (Entry.isRxOf u) = _
    rw [List.filter_map, show (Entry.isRxOf u ∘ fun e => { e with age := min (e.age + 1) 15 }) = Entry.isRxOf u from rfl, one]
    rfl

theorem State.planBoundary_ran {s : State} (none' : s.noneDue s.htu.hsn) : s.Ran u [.plan] (s.planBoundary true) := by
  unfold State.planBoundary
  rw [State.applyDue_none none']
  dsimp only
  have past (x : State) : x.Ran u [] (ids.foldl (fun s v => expireIf true (s.plc.plan.any (Entry.isPastRx v s.htu.hsn)) (.rxPast v) s) x) :=
    (foldl_works (v := none) (fun _ _ => expireIf_works _ _ _) ids x).ran nofun
  have timeouts (x : State) : x.Ran u [] (x.timedOut.foldl (fun s tag => expire true (.proposal tag) s) x) :=
    (foldl_works (v := none) (fun _ _ => expire_works _ _) _ x).ran nofun
  exact ((past s).trans (State.agePlan_ran _)).trans (timeouts _)

theorem State.boundaryPart_ran (began : Four LinkState) {s : State} (none' : s.noneDue s.htu.hsn) (p : BoundaryPart) :
    s.Ran u [p] (State.boundaryPart true began s p) := by
  cases p with
  | clc k => exact (s.clcBoundary_works (v := none) began k).ran nofun
  | recovery => exact (s.recoveryBoundary_works (v := none)).ran nofun
  | fade => exact s.fade_ran
  | adapt v =>
    refine (s.adaptBoundary_works v).ran fun same => ?_
    cases same
    exact List.mem_singleton_self _
  | plan => exact State.planBoundary_ran none'
  | power => exact (s.powerBoundary_works (v := none)).ran nofun
  | lanes => exact (s.laneBoundary_works (v := none)).ran nofun
  | pool => exact (s.poolBoundary_works (v := none)).ran nofun
  | schedule => exact (State.scheduleBoundary_works (v := none) none').ran nofun

theorem State.boundaryParts_ran (began : Four LinkState) (ps : List BoundaryPart) {s : State} (none' : s.noneDue s.htu.hsn) :
    s.Ran u ps (ps.foldl (State.boundaryPart true began) s) := by
  induction ps generalizing s with
  | nil => exact (State.Works.refl (v := none) s).ran nofun
  | cons p ps ih =>
    have first := State.boundaryPart_ran (u := u) began none' p
    exact first.trans (ih (first.quiet none'))

end

/-! ## The order of the parts -/

theorem validOrder_boundaryOrder (order : List BoundaryPart) : validOrder (boundaryOrder order) = true := by
  unfold boundaryOrder
  split
  · assumption
  · decide

/-- An order that the part can take names every part once (log 1). -/
theorem nodup_of_validOrder {ps : List BoundaryPart} (h : validOrder ps = true) : ps.Nodup ∧ ∀ p ∈ allParts, p ∈ ps := by
  simp only [validOrder, Bool.and_eq_true, beq_iff_eq, List.all_eq_true, List.contains_iff_mem] at h
  obtain ⟨⟨⟨length, all⟩, -⟩, -⟩ := h
  have once : allParts.Nodup := by decide
  exact ⟨((List.subperm_of_subset once all).perm_of_length_le length.le).nodup_iff.1 once, all⟩

/-- What stands in a list without what stands before `p`, where `p` stands in it. -/
theorem dropWhile_eq_cons {p : BoundaryPart} {ps : List BoundaryPart} (mem : p ∈ ps) : ∃ c, ps.dropWhile (fun x => x != p) = p :: c := by
  induction ps with
  | nil => cases mem
  | cons q qs ih =>
    by_cases same : q = p
    · exact ⟨qs, by simp [same]⟩
    · obtain ⟨c, rest⟩ := ih ((List.mem_cons.1 mem).resolve_left (Ne.symm same))
      exact ⟨c, by simp [same, rest]⟩

/-- In such an order the Fade Trackers come before the unit (R46), and each stands in it once (log 1). -/
theorem validOrder_split {ps : List BoundaryPart} (h : validOrder ps = true) (u : UnitId) :
    ∃ a b c, ps = (a ++ .fade :: b) ++ .adapt u :: c ∧ (.fade ∉ a ∧ .fade ∉ b) ∧
      (.adapt u ∉ a ∧ .adapt u ∉ b ∧ .adapt u ∉ c) ∧ c.count .plan ≤ 1 := by
  obtain ⟨nodup, all⟩ := nodup_of_validOrder h
  obtain ⟨c, rest⟩ := dropWhile_eq_cons (all (.adapt u) (by fin_cases u <;> decide))
  simp only [validOrder, Bool.and_eq_true, List.all_eq_true] at h
  obtain ⟨⟨-, fadeFirst⟩, -⟩ := h
  have first : .fade ∈ ps.takeWhile fun x => x != .adapt u := by simpa [comesBefore] using fadeFirst u (mem_ids u)
  obtain ⟨a, b, before⟩ := List.append_of_mem first
  have split : ps = (a ++ .fade :: b) ++ .adapt u :: c := by rw [← before, ← rest, List.takeWhile_append_dropWhile]
  have once := List.nodup_iff_count_le_one.1 nodup
  have fade := once .fade
  have unit := once (.adapt u)
  have plan := once .plan
  simp only [split, List.count_append, List.count_cons, beq_self_eq_true, if_pos] at fade unit plan
  refine ⟨a, b, c, split, ⟨?_, ?_⟩, ⟨?_, ?_, ?_⟩, by omega⟩ <;> refine List.count_eq_zero.1 ?_ <;> omega

/-! ## The turn -/

/-- Unit `u` takes a boundary that led from `s` to `t` as `x`: its context is that of `s`, the means are closed, and what it decides
stands. -/
structure State.Turn (s t : State) (u : UnitId) (x : State) : Prop where
  before : s.Advances x
  context : x.ade.get u = s.ade.get u
  closing : ∀ k, (x.ftr.get k).closing = (s.ftr.get k).close.closing
  after : (x.adaptBoundary true u).Advances t
  keeps : t.ade.get u = (x.adaptBoundary true u).ade.get u
  stands : ∀ e, (x.adaptBoundary true u).Stands u e 0 → t.Stands u e 1

theorem boundary_turn (began : Four LinkState) (order : List BoundaryPart) (u : UnitId) {s : State} (none' : s.noneDue s.htu.hsn) :
    ∃ x, s.Turn ((boundaryOrder order).foldl (State.boundaryPart true began) s).startTransmitters u x := by
  obtain ⟨a, b, c, split, ⟨fadeA, fadeB⟩, ⟨unitA, unitB, unitC⟩, plan⟩ := validOrder_split (validOrder_boundaryOrder order) u
  rw [split, List.foldl_append, List.foldl_append, List.foldl_cons, List.foldl_cons]
  have early : s.Ran u a _ := State.boundaryParts_ran began a none'
  generalize a.foldl (State.boundaryPart true began) s = y at early ⊢
  have closed : y.Ran u [.fade] (ids.foldl (State.fadeBoundary true) y) := y.fade_ran
  have late : State.Ran u b _ _ := State.boundaryParts_ran began b (closed.quiet (early.quiet none'))
  have pre := (early.trans closed).trans late
  have means : ∀ k, ((b.foldl (State.boundaryPart true began) (ids.foldl (State.fadeBoundary true) y)).ftr.get k).closing =
      (s.ftr.get k).close.closing := fun k => by rw [late.ftr fadeB, fadeBoundaries_closing, early.ftr fadeA]
  refine ⟨b.foldl (State.boundaryPart true began) (ids.foldl (State.fadeBoundary true) y), ?_⟩
  change State.Turn s (c.foldl (State.boundaryPart true began) (State.adaptBoundary true
    (b.foldl (State.boundaryPart true began) (ids.foldl (State.fadeBoundary true) y)) u)).startTransmitters u _
  generalize b.foldl (State.boundaryPart true began) (ids.foldl (State.fadeBoundary true) y) = x at late pre means ⊢
  have post : State.Ran u c _ _ := State.boundaryParts_ran began c ((x.adaptBoundary_works u).quiet (pre.quiet none'))
  have close := ((State.startTransmitters_only (c.foldl (State.boundaryPart true began) (x.adaptBoundary true u))).queues.works
    (v := none)).ran (u := u) (ps := []) nofun
  have rest := post.trans close
  rw [List.append_nil] at rest
  refine ⟨pre.toAdvances, pre.ade ?_, means, rest.toAdvances, rest.ade unitC, fun e stands => ?_⟩
  · simp [unitA, unitB]
  · obtain ⟨n, young, one⟩ := rest.stands unitC e 0 stands
    exact ⟨n, by omega, one⟩

end Sys2Proof.Machine
end

section
/-! The boundary decision of a unit (R46, R61–R67, R71, R74), where every expiry is left to a step of its own. -/

namespace Sys2Proof.Machine

/-! ## The unit's mean (R46, R61) -/

theorem State.memberMean_unlocked {s : State} {k : CarrierId} (locked : s.isLocked k = false) : s.memberMean k = none := by
  simp [State.memberMean, locked]

/-- Behind the close a member gives the mean that it had at the close (R45, R46). -/
theorem State.memberMean_closed {s x : State} {k : CarrierId} (link : x.link k = s.link k)
    (closing : (x.ftr.get k).closing = (s.ftr.get k).close.closing) : x.memberMean k = s.closingMean k := by
  have last : (x.ftr.get k).lastMean = (s.ftr.get k).close.lastMean := congrArg Prod.fst closing
  have number : (x.ftr.get k).lastNumber = (s.ftr.get k).acc.number := congrArg Prod.snd closing
  have locked : x.isLocked k = s.isLocked k := by rw [State.isLocked, link, State.isLocked]
  unfold State.memberMean State.closingMean
  rw [last, number, locked]
  by_cases gives : s.isLocked k = true ∧ 16 ≤ (s.ftr.get k).acc.number
  · have some' : (s.ftr.get k).acc.number ≠ 0 := by omega
    simp [gives, Ftr.close, some', Accumulators.mean]
  · rw [if_neg (by simpa using gives), if_neg gives]

/-- A unit without a LOCKED member has no mean (R46). -/
theorem State.formMean_unlocked {s : State} {u : UnitId} (locked : s.unitLocked u = false) : s.formMean u = none := by
  have none' : ∀ k ∈ s.members u, s.memberMean k = none := fun k mem =>
    State.memberMean_unlocked (by simpa using List.any_eq_false.1 locked k mem)
  unfold State.formMean
  generalize s.members u = ks at none'
  induction ks with
  | nil => rfl
  | cons k ks ih =>
    rw [List.foldl_cons, none' k (by simp)]
    exact ih fun j mem => none' j (by simp [mem])

/-- A unit with a LOCKED member forms its mean from its primary's and its mirror's (R46, R61). -/
theorem State.formMean_locked {s x : State} {u : UnitId} (settings : x.settings = s.settings) (locked : s.unitLocked u = true)
    (member : ∀ k, x.memberMean k = s.closingMean k) : x.formMean u = s.closingUnit u := by
  have members : x.members u = u :: (s.mirrorOf u).toList := by
    rw [State.members_congr settings]
    refine (s.members_cases u).resolve_left fun none' => ?_
    simp [State.unitLocked, none'] at locked
  unfold State.formMean State.closingUnit
  rw [members]
  cases primary : s.closingMean u <;> cases s.mirrorOf u with
  | none => simp [member, primary]
  | some k => cases second : s.closingMean k <;> simp [member, primary, second]

/-! ## What the counts bring (R63, R74) -/

theorem State.ticked_dropHold {s : State} {u : UnitId} (last : (s.ade.get u).dropHold = 1) : Expiry.dropHold u ∈ (s.ticked u).due := by
  have first : Expiry.dropHold u ∈ (expireIf true (true && (s.ade.get u).dropHold == 1) (.dropHold u) (s.tickUnit u)).due :=
    mem_expireIf_due (by simp [last])
  exact (expireIf_works (v := none) _ _ _).due _ first

theorem State.ticked_upDwell {s : State} {u : UnitId} (moves : (s.ade.get u).upDwell < ((s.ticked u).ade.get u).upDwell)
    (full : ((s.ticked u).ade.get u).upDwell = s.settings.upDwell) : Expiry.upDwell u ∈ (s.ticked u).due := by
  obtain ⟨d, e⟩ := s.ticked_shape u
  rw [e] at moves full
  have settings : (expireIf true (true && (s.ade.get u).dropHold == 1) (.dropHold u) (s.tickUnit u)).settings = s.settings :=
    ((s.tickUnit_works u).trans (expireIf_works _ _ _)).settings
  refine mem_expireIf_due ?_
  rw [settings, Bool.and_eq_true, Bool.true_and, decide_eq_true_eq, beq_iff_eq]
  exact ⟨moves, full⟩

/-! ## The downshift (R64) -/

/-- The highest of the first `n` profiles with the target margin, or profile 0 (R64). -/
theorem highest_fitting (fits : Nat → Prop) [DecidablePred fits] (n : Nat) :
    let r := (List.range n).foldl (fun best q => if fits q then q else best) 0
    (r = 0 ∨ r < n ∧ fits r) ∧ ∀ q < n, fits q → q ≤ r := by
  induction n with
  | zero => exact ⟨.inl rfl, fun q below => absurd below (Nat.not_lt_zero q)⟩
  | succ n ih =>
    simp only [List.range_succ, List.foldl_append, List.foldl_cons, List.foldl_nil]
    obtain ⟨best, above⟩ := ih
    split
    · rename_i fit
      exact ⟨.inr ⟨Nat.lt_succ_self n, fit⟩, fun q below _ => Nat.lt_succ_iff.1 below⟩
    · rename_i unfit
      refine ⟨best.imp_right fun ⟨below, fit⟩ => ⟨by omega, fit⟩, fun q below fit => ?_⟩
      obtain same | less := Nat.lt_succ_iff_lt_or_eq.1 below |>.symm
      · exact absurd (same ▸ fit) unfit
      · exact above q less fit

theorem Settings.downshift_highest (p : Settings) (m : Nat) : p.downshift m ≤ p.top ∧
    (p.downshift m = 0 ∨ p.required (p.downshift m) + p.targetMargin ≤ m) ∧
    ∀ n ≤ p.top, p.required n + p.targetMargin ≤ m → n ≤ p.downshift m := by
  have highest := highest_fitting (fun q => p.required q + p.targetMargin ≤ m) p.ladder.length
  change (p.downshift m = 0 ∨ p.downshift m < p.ladder.length ∧ _) ∧ ∀ q < p.ladder.length, _ → q ≤ p.downshift m at highest
  obtain ⟨best, above⟩ := highest
  refine ⟨?_, best.imp_right And.right, fun n within fit => ?_⟩
  · unfold Settings.top
    obtain zero | ⟨below, -⟩ := best <;> omega
  · unfold Settings.top at within
    by_cases empty : p.ladder.length = 0
    · have zero : n = 0 := by omega
      exact zero ▸ Nat.zero_le _
    · exact above n (by omega) fit

/-! ## The tests of the decision (R62, R64–R66) -/

section
variable {y : State} {u : UnitId} {c : CarrierId} {m : Nat}

theorem State.peerHasRoom_iff : y.peerHasRoom u c = true ↔
    ∃ l, y.peer.level.get c = some l ∧ (∃ n, y.peer.cap.get c = some n ∧ l < n) ∧ (y.ade.get u).atCap = none := by
  unfold State.peerHasRoom
  cases y.peer.level.get c <;> cases y.peer.cap.get c <;> simp

theorem State.mayUpshift_iff : y.mayUpshift u = true ↔ y.settings.upDwell ≤ (y.ade.get u).upDwell ∧ (y.ade.get u).dropHold = 0 ∧
    y.peer.digest = some y.settings.digest ∧ y.linkCounts u = false := by
  simp [State.mayUpshift, State.digestMatch, and_assoc]

theorem State.powerDown_asks (gives : y.settings.required (y.ade.get u).rxProfile + y.settings.targetMargin + 8 ≤ m ∧
    ∃ l, y.peer.level.get c = some l ∧ 0 < l) : y.powerDown u c m = y.offerAsk u c (-1) :=
  if_pos (by simpa [Option.any_eq_true] using gives)

theorem State.powerDown_keeps (refuses : ¬(y.settings.required (y.ade.get u).rxProfile + y.settings.targetMargin + 8 ≤ m ∧
    ∃ l, y.peer.level.get c = some l ∧ 0 < l)) : y.powerDown u c m = y :=
  if_neg (by simpa [Option.any_eq_true] using refuses)

end

/-- A unit without an ask decides (R62). -/
theorem State.adaptBoundary_decides {s : State} {u : UnitId} (ask : ((s.ticked u).ade.get u).ask = none) :
    s.adaptBoundary true u = (s.ticked u).decideUnit u := by
  rw [State.adaptBoundary_eq, if_neg]
  simp [State.askExpired, ask]

/-- The unit's mean decides between a deficit and a surplus (step 4 of R62). -/
theorem State.decideUnit_eq {y : State} {u : UnitId} {c : CarrierId} {m : Nat} (mean : (y.ade.get u).mean = some (c, m))
    (steady : (y.ade.get u).state = .steady) : y.decideUnit u =
      if m < y.settings.required (y.ade.get u).rxProfile + y.settings.holdMargin then y.deficit u c m else y.surplus u c m := by
  simp only [State.decideUnit, State.governing, mean, steady, if_pos]

/-! ## What is decided stands -/

section
variable {s t x : State} {u : UnitId} (turn : s.Turn t u x)
include turn

theorem State.Turn.ticked_advances : s.Advances (x.ticked u) := turn.before.trans (x.ticked_works u).toAdvances

theorem State.Turn.serviceCarrier : (x.ticked u).serviceCarrier u = s.serviceCarrier u := by
  have advances := turn.ticked_advances
  have locked : ∀ j, (x.ticked u).isLocked j = s.isLocked j := fun j => by rw [State.isLocked, advances.link, State.isLocked]
  have mirror : (x.ticked u).mirrorOf u = s.mirrorOf u := by simp only [State.mirrorOf, State.role, advances.settings]
  simp only [State.serviceCarrier, locked, mirror]

theorem State.Turn.due {e : Expiry} (h : e ∈ (x.ticked u).due) : e ∈ t.due := turn.after.due e ((x.ticked_adaptBoundary_works u).due e h)

theorem State.Turn.unitLocked : x.unitLocked u = s.unitLocked u :=
  State.unitLocked_congr turn.before.settings (fun j => by rw [State.isLocked, turn.before.link, State.isLocked]) u

/-- With a LOCKED member the counts have moved by the mean at the close (R46, R62, R63). -/
theorem State.Turn.counted (locked : s.unitLocked u = true) :
    (x.ticked u).ade.get u = s.stepped (s.ade.get u) (s.closingUnit u) := by
  have mean : x.formMean u = s.closingUnit u := State.formMean_locked turn.before.settings locked fun k =>
    State.memberMean_closed (turn.before.link k) (turn.closing k)
  rw [State.ticked_locked (turn.unitLocked.trans locked), mean, turn.context]
  simp only [State.stepped, turn.before.settings]

theorem State.Turn.uncounted (locked : s.unitLocked u = false) :
    (x.ticked u).ade.get u = { s.ade.get u with dropHold := (s.ade.get u).dropHold - 1, mean := none } := by
  have unlocked := turn.unitLocked.trans locked
  rw [State.ticked_unlocked unlocked, State.formMean_unlocked unlocked, turn.context]

/-- An ask that has waited two boundaries falls due, and nothing else happens (R69). -/
theorem State.Turn.expires (expired : (x.ticked u).askExpired u = true) :
    t.ade.get u = (x.ticked u).ade.get u ∧ Expiry.ask u ∈ t.due := by
  have act : x.adaptBoundary true u = expire true (.ask u) (x.ticked u) := by rw [State.adaptBoundary_eq, if_pos expired]
  refine ⟨turn.keeps.trans (by rw [act]; rfl), turn.after.due _ ?_⟩
  rw [act]
  exact List.mem_append_right _ (List.mem_singleton_self _)

/-- A unit that decides nothing keeps its context. -/
theorem State.Turn.stays (decided : (x.ticked u).decideUnit u = x.ticked u) : t.ade.get u = (x.ticked u).ade.get u := by
  rw [turn.keeps, State.adaptBoundary_eq]
  split
  · rfl
  · rw [decided]

/-- A unit with no mean, or not in STEADY, decides nothing (R62). -/
theorem State.Turn.undecided (none' : ((x.ticked u).ade.get u).state ≠ .steady ∨ ((x.ticked u).ade.get u).mean = none) :
    t.ade.get u = (x.ticked u).ade.get u := by
  refine turn.stays ?_
  unfold State.decideUnit State.governing
  split
  · rename_i c m mean
    exact if_neg (none'.resolve_right (by simp [mean]))
  · rfl

section
variable {d : Ade} (context : (x.ticked u).ade.get u = d) (ask : d.ask = none)
include context ask

/-- An ask decided stands behind the boundary (R67). -/
theorem State.Turn.asks {c : CarrierId} {n : Int} (decided : (x.ticked u).decideUnit u = (x.ticked u).offerAsk u c n) :
    s.DecidesAsk t u d c n := by
  have act := (State.adaptBoundary_decides (context ▸ ask)).trans decided
  refine ⟨⟨(x.ticked u).askTag, c, n, 0⟩, ?_⟩
  have kept : t.ade.get u = { d with ask := some ⟨(x.ticked u).askTag, c, n, 0⟩, asked := some c, state := .askingPower } := by
    rw [turn.keeps, act, ← context]
    exact Four.get_modify_self _ _ _
  refine ⟨by rw [kept], rfl, rfl, rfl, kept, turn.after.waits _ _ ?_⟩
  rw [act, ← turn.serviceCarrier]
  exact (x.ticked u).offered_awaits _ _ rfl

/-- A proposal decided stands behind the boundary, aged by it at most once (R71, R81, R92). -/
theorem State.Turn.proposes {q : Nat} (steady : d.state = .steady)
    (decided : (x.ticked u).decideUnit u = (x.ticked u).proposeProfile u q) : s.DecidesProfile t u d q := by
  have act := (State.adaptBoundary_decides (context ▸ ask)).trans decided
  obtain ⟨g, sc, l, released, shape⟩ := (x.ticked u).proposeProfile_shape u q
  have same : g d = d := (released d).resolve_right fun ⟨proposing, _⟩ => by simp [steady] at proposing
  have context' : (x.adaptBoundary true u).ade.get u = { d with upDwell := 0, state := .proposing } := by
    rw [act, shape]
    show (((x.ticked u).ade.modify u g).modify u _).get u = _
    rw [Four.get_modify_self, Four.get_modify_self, context, same]
  have alone : (x.adaptBoundary true u).Stands u ((x.ticked u).proposal u q) 0 := by
    refine ⟨0, Nat.le_refl 0, ?_⟩
    rw [act, shape]
    show (((x.ticked u).plc.plan.filter fun e => !e.isRxOf u) ++ [(x.ticked u).proposal u q]).filter (Entry.isRxOf u) = _
    rw [List.filter_append, List.filter_filter]
    simp [State.proposal_isRxOf]
    rfl
  have waits : (x.adaptBoundary true u).Awaits (s.serviceCarrier u) (.proposeRx (x.ticked u).plc.nextTag u q) := by
    rw [act, ← turn.serviceCarrier]
    exact (x.ticked u).offered_awaits _ _ (by rw [shape])
  obtain ⟨a, young, one⟩ := turn.stands _ alone
  have mem (e : Entry) : e ∈ t.plc.plan ∧ e.isRxOf u = true ↔ e = { (x.ticked u).proposal u q with age := a } := by
    rw [← List.mem_filter, one, List.mem_singleton]
  obtain ⟨stands, -⟩ := (mem _).2 rfl
  exact ⟨turn.keeps.trans context', _, stands, rfl, rfl, rfl, rfl, young, turn.after.waits _ _ waits,
    fun e he rx => (mem e).1 ⟨he, rx⟩⟩

/-! ### In deficit and in surplus (R64–R66) -/

/-- A step of power down is asked for where mean and view allow it (R66). -/
theorem State.Turn.powersDown {c : CarrierId} {m : Nat} (decided : (x.ticked u).decideUnit u = (x.ticked u).powerDown u c m) :
    let gives := s.settings.required d.rxProfile + s.settings.targetMargin + 8 ≤ m ∧ ∃ l, s.peer.level.get c = some l ∧ 0 < l
    (gives → s.DecidesAsk t u d c (-1)) ∧ (¬gives → t.ade.get u = d) := by
  have advances := turn.ticked_advances
  have asks := State.powerDown_asks (y := x.ticked u) (u := u) (c := c) (m := m)
  have keeps := State.powerDown_keeps (y := x.ticked u) (u := u) (c := c) (m := m)
  rw [context, advances.settings, advances.peer] at asks keeps
  exact ⟨fun gives => turn.asks context ask (decided.trans (asks gives)),
    fun refuses => (turn.stays (decided.trans (keeps refuses))).trans context⟩

/-- The decision of a unit in STEADY without an ask: in deficit for power, else a downshift; in surplus by the peer's mode (R62,
R64–R66). -/
theorem State.Turn.decides {c : CarrierId} {m : Nat} (steady : d.state = .steady) (mean : d.mean = some (c, m)) :
    s.Decides t u d c m := by
  have advances := turn.ticked_advances
  have choice := State.decideUnit_eq (context ▸ mean) (context ▸ steady)
  rw [context, advances.settings] at choice
  refine ⟨fun deficit => ?_, fun surplus => ?_⟩
  · rw [if_pos deficit] at choice
    have room := State.peerHasRoom_iff (y := x.ticked u) (u := u) (c := c)
    rw [advances.peer, context] at room
    have unfolded : (x.ticked u).deficit u c m =
        if (x.ticked u).peerHasRoom u c then (x.ticked u).offerAsk u c (s.settings.deficitSteps d.rxProfile m)
        else if 0 < d.rxProfile then (x.ticked u).proposeProfile u (s.settings.downshift m) else x.ticked u := by
      rw [← context, ← advances.settings]
      rfl
    rw [unfolded] at choice
    refine ⟨fun has => turn.asks context ask (choice.trans (if_pos (room.2 has))), fun lacks above => ?_, fun lacks zero => ?_⟩
    · obtain ⟨within, fits, highest⟩ := s.settings.downshift_highest m
      refine ⟨_, within, turn.proposes context ask steady ?_, fits, highest⟩
      rw [choice, if_neg fun has => lacks (room.1 has), if_pos above]
    · refine (turn.stays ?_).trans context
      rw [choice, if_neg fun has => lacks (room.1 has), if_neg (by omega)]
  · rw [if_neg (Nat.not_lt.2 surplus)] at choice
    have unfolded : (x.ticked u).surplus u c m = match s.peer.mode with
        | some .full => if d.rxProfile < s.settings.top then
            (if (x.ticked u).mayUpshift u then (x.ticked u).proposeProfile u (d.rxProfile + 1) else x.ticked u)
          else (x.ticked u).powerDown u c m
        | some .economy => (x.ticked u).powerDown u c m
        | some .survival => (x.ticked u).powerDown u c m
        | none => x.ticked u := by
      rw [← context, ← advances.settings, ← advances.peer]
      rfl
    rw [unfolded] at choice
    refine ⟨fun unknown => ?_, fun saving => ?_, fun full top => ?_, fun full below => ?_⟩
    · rw [unknown] at choice
      exact (turn.stays choice).trans context
    · refine turn.powersDown context ask ?_
      obtain mode | mode := saving <;> rw [choice, mode]
    · refine turn.powersDown context ask ?_
      rw [choice, full]
      exact if_neg (Nat.not_lt.2 top)
    · rw [full] at choice
      change _ = if _ then _ else _ at choice
      rw [if_pos below] at choice
      have may := State.mayUpshift_iff (y := x.ticked u) (u := u)
      rw [context, advances.settings, advances.peer] at may
      refine ⟨fun held => ?_, fun dwelt calm matches' free => turn.proposes context ask steady ?_⟩
      · refine (turn.stays (choice.trans (if_neg fun up => ?_))).trans context
        obtain ⟨dwelt, calm, matches', free⟩ := may.1 up
        rcases held with early | holds | differs | counts
        · omega
        · exact holds calm
        · exact differs matches'
        · simp [advances.counts u counts] at free
      · refine choice.trans (if_pos (may.2 ⟨dwelt, calm, matches', ?_⟩))
        by_contra counts
        rw [Bool.not_eq_false] at counts
        simp [turn.after.counts u ((x.ticked_adaptBoundary_works u).counts u counts)] at free

end

end

/-! ## The statement -/

/-- The part once the next superframe has begun, before its blocks take the boundary (R1, R2). -/
def State.begun (s : State) : State :=
  { s with due := [], htu := { s.htu with hsn := s.htu.hsn + 1, frame := 0 }, cpm := { s.cpm with penaltyFresh := .of false } }

theorem State.beginSuperframe_eq {s : State} (due : s.due = []) : s.beginSuperframe = s.begun := by
  rw [State.beginSuperframe, due]
  rfl

/-- Settles O10: no other part of the boundary touches what the unit reads or decides, and its own decides by the branches of R62. -/
theorem boundaryDecidesTheProfile : Obligations.BoundaryDecidesTheProfile := by
  rintro order u s ⟨running, due, quiet⟩
  refine completes_event (f := fun s => s.boundary order true) rfl running ?_
  obtain ⟨x, turn⟩ := boundary_turn (s := ({ s with out := [] } : State).begun) (s.clc.map Clc.link) order u quiet
  dsimp only
  rw [State.boundary, State.beginSuperframe_eq (by exact due)]
  refine ⟨fun last => turn.due (State.ticked_dropHold (turn.context ▸ last)), fun unlocked => ?_, fun locked => ?_⟩
  · have context := turn.uncounted unlocked
    exact (turn.undecided (.inr (by rw [context]))).trans context
  · have context := turn.counted locked
    refine ⟨fun moves full => ?_, fun idle => ?_, fun k asked waited => ?_, fun y mean steady ask => ?_⟩
    · refine turn.due (State.ticked_upDwell ?_ ?_)
      · rw [turn.context, context]
        exact moves
      · rw [context, turn.before.settings]
        exact full
    · refine (turn.undecided ?_).trans context
      rw [context]
      exact idle
    · obtain ⟨keeps, expires⟩ := turn.expires (by
        rw [State.askExpired, context]
        show ((s.ade.get u).ask.map fun k => { k with wait := min (k.wait + 1) 2 }).any _ = true
        simp [asked, waited])
      exact ⟨keeps.trans context, expires⟩
    · refine turn.decides context ?_ steady mean
      show (s.ade.get u).ask.map _ = none
      rw [ask, Option.map_none]

end Sys2Proof.Machine
end

section
/-! An ask unanswered for two boundaries (R69, R70), as a step of its own (log 2), and the decision that follows it (R62–R67, R71). -/

namespace Sys2Proof.Machine

/-! ## Asks and proposals where the unit decides by itself (R67, R71, R81) -/

theorem State.offerAsk_decides (s : State) (u : UnitId) (c : CarrierId) (n : Int) :
    s.DecidesAsk (s.offerAsk u c n) u (s.ade.get u) c n := by
  have context : (s.offerAsk u c n).ade.get u =
      { s.ade.get u with ask := some ⟨s.askTag, c, n, 0⟩, asked := some c, state := .askingPower } := Four.get_modify_self _ _ _
  exact ⟨_, congrArg Ade.ask context, rfl, rfl, rfl, context, s.offered_awaits _ _ rfl⟩

/-- The context of a unit that enters PROPOSING (R71). -/
def Ade.proposing (a : Ade) : Ade := { a with upDwell := 0, state := .proposing }

/-- A proposal under the capacity law: C does not move and no PLAN is raised, since the entries are RX_PROFILE alone (R71, R103, R140). -/
theorem State.proposeProfile_eq {s : State} (law : s.sched.capacity = s.capacityNow) (u : UnitId) (q : Nat) :
    s.proposeProfile u q = { s with
      ade := s.ade.modify u Ade.proposing
      plc := { s.plc with plan := (s.plc.plan.filter fun e => !e.isRxOf u) ++ [s.proposal u q], nextTag := s.plc.nextTag + 1 }
      scu := s.offered (s.serviceCarrier u) (.proposeRx s.plc.nextTag u q) } := by
  obtain ⟨g, released, removed⟩ := s.removeEntries_rx u
  have overwritten : ∀ a, (g a).proposing = a.proposing := fun a => by
    obtain same | ⟨-, steady⟩ := released a
    · rw [same]
    · rw [steady]
      rfl
  have now : (s.withoutRx u g).sched.capacity = (s.withoutRx u g).capacityNow :=
    law.trans (State.capacityNow_congr rfl (fun _ => rfl) rfl rfl rfl).symm
  have contexts : (s.ade.modify u g).modify u Ade.proposing = s.ade.modify u Ade.proposing := by
    simp [Four.modify, overwritten]
  unfold State.proposeProfile
  rw [removed, State.formCapacity_same now, ← contexts]
  rfl

theorem State.proposeProfile_decides {s : State} (law : s.sched.capacity = s.capacityNow) (u : UnitId) (q : Nat) :
    s.DecidesProfile (s.proposeProfile u q) u (s.ade.get u) q := by
  rw [State.proposeProfile_eq law]
  refine ⟨Four.get_modify_self _ _ _, s.proposal u q, List.mem_append_right _ (List.mem_singleton_self _), rfl, rfl, rfl, rfl,
    Nat.zero_le 1, s.offered_awaits _ _ rfl, fun e mem rx => ?_⟩
  rcases List.mem_append.1 mem with other | own
  · simp [rx] at other
  · exact List.mem_singleton.1 own

/-! ## What the decision can do (R62, R64–R66) -/

/-- What a decision of unit `u` in `s` can lead to: nothing has changed, power is asked for, or a profile is proposed; where the
peer-at-cap mark is set, the power asked for is a step down (R64–R67, R71). -/
def State.DecidesWithin (s t : State) (u : UnitId) : Prop :=
  t = s ∨ (∃ c n, t = s.offerAsk u c n ∧ ((s.ade.get u).atCap ≠ none → n = -1)) ∨ ∃ q, t = s.proposeProfile u q

theorem State.powerDown_decidesWithin (s : State) (u : UnitId) (c : CarrierId) (m : Nat) : s.DecidesWithin (s.powerDown u c m) u := by
  unfold State.powerDown
  dsimp only
  split
  · exact .inr (.inl ⟨c, -1, rfl, fun _ => rfl⟩)
  · exact .inl rfl

theorem State.deficit_decidesWithin (s : State) (u : UnitId) (c : CarrierId) (m : Nat) : s.DecidesWithin (s.deficit u c m) u := by
  unfold State.deficit
  dsimp only
  split
  · rename_i room
    obtain ⟨-, -, -, unmarked⟩ := State.peerHasRoom_iff.1 room
    exact .inr (.inl ⟨c, _, rfl, fun marked => absurd unmarked marked⟩)
  · split
    · exact .inr (.inr ⟨_, rfl⟩)
    · exact .inl rfl

theorem State.surplus_decidesWithin (s : State) (u : UnitId) (c : CarrierId) (m : Nat) : s.DecidesWithin (s.surplus u c m) u := by
  unfold State.surplus
  dsimp only
  split
  · split
    · split
      · exact .inr (.inr ⟨_, rfl⟩)
      · exact .inl rfl
    · exact s.powerDown_decidesWithin u c m
  · exact s.powerDown_decidesWithin u c m
  · exact s.powerDown_decidesWithin u c m
  · exact .inl rfl

theorem State.decideUnit_decidesWithin (s : State) (u : UnitId) : s.DecidesWithin (s.decideUnit u) u := by
  unfold State.decideUnit
  split
  · dsimp only
    split
    · split
      · exact s.deficit_decidesWithin u _ _
      · exact s.surplus_decidesWithin u _ _
    · exact .inl rfl
  · exact .inl rfl

/-- The decision reaches the unit's context, the service queues, the plan and the ask tag, nothing else (R67, R71). -/
theorem State.decideUnit_frame {s : State} (law : s.sched.capacity = s.capacityNow) (u : UnitId) :
    s.decideUnit u = { s with
      ade := s.ade.set u ((s.decideUnit u).ade.get u), scu := (s.decideUnit u).scu, plc := (s.decideUnit u).plc
      askTag := (s.decideUnit u).askTag } := by
  obtain stays | ⟨c, n, asks, -⟩ | ⟨q, proposes⟩ := s.decideUnit_decidesWithin u
  · rw [stays, Four.set_get]
  · rw [asks]
    simp [State.offerAsk, State.setAde, State.offer, Four.modify]
  · rw [proposes, State.proposeProfile_eq law]
    simp [Four.modify]

/-- The mark of a unit at the peer's cap outlives the decision, which leaves no new ask but one for a power-down (R64–R67, R70). -/
theorem State.decideUnit_marked {s : State} {u : UnitId} (law : s.sched.capacity = s.capacityNow)
    (marked : (s.ade.get u).atCap ≠ none) (free : (s.ade.get u).ask = none) :
    ((s.decideUnit u).ade.get u).atCap = (s.ade.get u).atCap ∧
      ∀ a, ((s.decideUnit u).ade.get u).ask = some a → a.delta = -1 ∧ a.wait = 0 := by
  obtain stays | ⟨c, n, asks, down⟩ | ⟨q, proposes⟩ := s.decideUnit_decidesWithin u
  · rw [stays]
    exact ⟨rfl, fun a ask => absurd (free.symm.trans ask) nofun⟩
  · obtain ⟨g, ask, -, delta, wait, context, -⟩ := s.offerAsk_decides u c n
    rw [asks]
    refine ⟨by rw [context], fun a ask' => ?_⟩
    obtain rfl : g = a := Option.some.inj (ask.symm.trans ask')
    exact ⟨delta.trans (down marked), wait⟩
  · obtain ⟨context, -⟩ := State.proposeProfile_decides law u q
    rw [proposes, context]
    exact ⟨rfl, fun a ask => absurd (free.symm.trans ask) nofun⟩

/-! ## The decision as the statements word it (R62, R64–R66) -/

/-- A step of power down is asked for where mean and view allow it, else nothing happens (R66). -/
theorem State.powerDown_decides (s : State) (u : UnitId) (c : CarrierId) (m : Nat) :
    let d := s.ade.get u
    let gives := s.settings.required d.rxProfile + s.settings.targetMargin + 8 ≤ m ∧ ∃ l, s.peer.level.get c = some l ∧ 0 < l
    (gives → s.DecidesAsk (s.powerDown u c m) u d c (-1)) ∧ (¬gives → (s.powerDown u c m).ade.get u = d) := by
  refine ⟨fun gives => ?_, fun refuses => ?_⟩
  · rw [State.powerDown_asks gives]
    exact s.offerAsk_decides u c (-1)
  · rw [State.powerDown_keeps refuses]

/-- Step 4 of R62 as a step of its own: the decision of a unit in STEADY with mean `m` and governing member `c`. -/
theorem State.decideUnit_decides {s : State} {u : UnitId} {c : CarrierId} {m : Nat} (law : s.sched.capacity = s.capacityNow)
    (steady : (s.ade.get u).state = .steady) (mean : s.governing u = some (c, m)) :
    s.Decides (s.decideUnit u) u (s.ade.get u) c m := by
  have choice := State.decideUnit_eq mean steady
  refine ⟨fun deficit => ?_, fun surplus => ?_⟩
  · rw [if_pos deficit, State.deficit] at choice
    refine ⟨fun room => ?_, fun full above => ?_, fun full bottom => ?_⟩
    · rw [choice, if_pos (State.peerHasRoom_iff.2 room)]
      exact s.offerAsk_decides u c _
    · rw [choice, if_neg (full ∘ State.peerHasRoom_iff.1), if_pos above]
      obtain ⟨within, fits, highest⟩ := s.settings.downshift_highest m
      exact ⟨_, within, State.proposeProfile_decides law u _, fits, highest⟩
    · rw [choice, if_neg (full ∘ State.peerHasRoom_iff.1), if_neg (by omega)]
  · rw [if_neg (Nat.not_lt.2 surplus), State.surplus] at choice
    refine ⟨fun unknown => ?_, fun saving => ?_, fun full top => ?_, fun full below => ?_⟩
    · rw [choice, unknown]
    · have down : s.decideUnit u = s.powerDown u c m := by
        obtain mode | mode := saving <;> rw [choice, mode]
      rw [down]
      exact s.powerDown_decides u c m
    · have down : s.decideUnit u = s.powerDown u c m := by
        rw [choice, full]
        exact if_neg (Nat.not_lt.2 top)
      rw [down]
      exact s.powerDown_decides u c m
    · have up : s.decideUnit u = if s.mayUpshift u then s.proposeProfile u ((s.ade.get u).rxProfile + 1) else s := by
        rw [choice, full]
        exact if_pos below
      refine ⟨fun held => ?_, fun dwelt calm matching free => ?_⟩
      · rw [up, if_neg fun may => ?_]
        obtain ⟨dwelt, calm, matching, free⟩ := State.mayUpshift_iff.1 may
        rcases held with early | holds | differs | counts
        · omega
        · exact holds calm
        · exact differs matching
        · exact Bool.false_ne_true (free.symm.trans counts)
      · have uncounted : s.linkCounts u = false := by
          by_contra counts
          rw [(s.decideUnit_works u).counts u (Bool.not_eq_false _ ▸ counts)] at free
          cases free
        rw [up, if_pos (State.mayUpshift_iff.2 ⟨dwelt, calm, matching, uncounted⟩)]
        exact State.proposeProfile_decides law u _

theorem State.decideUnit_undefined {s : State} {u : UnitId} (undefined : s.governing u = none) : s.decideUnit u = s := by
  rw [State.decideUnit, undefined]

/-! ## The end of the ask (R69, R70) -/

/-- The context of a unit whose ask has ended unanswered, the peer's level and cap being `view` (R69, R70). -/
def Ade.unanswered (view : Option Nat × Option Nat) (a : Ade) : Ade := { a with atCap := some view, ask := none, state := .steady }

/-- The part once unit `u`'s ask of carrier `c` has ended unanswered (R69, R70). -/
def State.unanswered (s : State) (u : UnitId) (c : CarrierId) : State :=
  { s with ade := s.ade.set u ((s.ade.get u).unanswered (s.peer.level.get c, s.peer.cap.get c)) }

theorem State.unanswered_context (s : State) (u : UnitId) (c : CarrierId) :
    (s.unanswered u c).ade.get u = (s.ade.get u).unanswered (s.peer.level.get c, s.peer.cap.get c) := Four.get_set_self _ _ _

theorem State.unanswered_governing (s : State) (u : UnitId) (c : CarrierId) : (s.unanswered u c).governing u = s.governing u := by
  rw [State.governing, State.unanswered_context]
  rfl

theorem State.endAsk_eq {s : State} {u : UnitId} {c : CarrierId} (asked : (s.ade.get u).asked = some c) :
    s.endAsk u = s.unanswered u c := by
  simp [State.endAsk, State.setAtCap, State.setAde, Four.modify, asked, State.unanswered, Ade.unanswered]

/-- An ask that has waited two boundaries ends, and the unit decides (R69). -/
theorem State.askExpiry_eq {s : State} {u : UnitId} {k : Ask} {c : CarrierId} (ask : (s.ade.get u).ask = some k) (waited : 2 ≤ k.wait)
    (asked : (s.ade.get u).asked = some c) : s.askExpiry u = (s.unanswered u c).decideUnit u := by
  rw [State.askExpiry, if_pos (by simp [State.askExpired, ask, waited]), State.endAsk_eq asked]

/-- Settles O17: the ask's end sets the mark, and what follows is the unit's decision on the context so changed. -/
theorem unansweredAskMarksThePeer : Obligations.UnansweredAskMarksThePeer := by
  rintro u c k s ⟨running, settled⟩ due ask waited asked ⟨-, law⟩
  refine completes_expiry rfl running due ?_
  have expiry : runExpiry (s.atExpiry (.ask u)) (.ask u) = ((s.atExpiry (.ask u)).unanswered u c).decideUnit u :=
    State.askExpiry_eq ask waited asked
  have context := (s.atExpiry (.ask u)).unanswered_context u c
  have governing := (s.atExpiry (.ask u)).unanswered_governing u c
  have formed : ((s.atExpiry (.ask u)).unanswered u c).sched.capacity = ((s.atExpiry (.ask u)).unanswered u c).capacityNow :=
    law.trans (State.capacityNow_eq s).symm
  have frame := State.decideUnit_frame formed u
  obtain ⟨mark, asks⟩ := State.decideUnit_marked (u := u) formed (by rw [context]; nofun) (by rw [context]; rfl)
  rw [expiry, State.settled_same settled (by rw [frame]; rfl) (by rw [frame]; rfl)]
  refine ⟨by rw [mark, context]; rfl, asks, fun undefined => ?_, fun ⟨g, m⟩ mean => ?_, frame.trans ?_⟩
  · rw [State.decideUnit_undefined (governing.trans undefined)]
    exact context
  · have decides := State.decideUnit_decides formed (by rw [context]; rfl) (governing.trans mean)
    rw [context] at decides
    exact decides
  · simp [State.unanswered, State.atExpiry]

end Sys2Proof.Machine
end

section
/-! SUPPORT. LINK requests and the pool's part of a boundary (R83, R127, R130–R136): what every request and every expiry keeps, they keep
together. -/

namespace Sys2Proof.Machine

/-- A LINK request is refused, or its entry joins the plan and its PROPOSE the anchor's queue (R83). -/
theorem State.linkRequest_cases (s : State) (c : LinkChange) : s.linkRequest c = s ∨
    ((∃ a l, s.htu.anchor = some a ∧ s.linkRequest c = { s with
      scu := s.offered a (.proposeLink s.plc.nextTag c)
      plc := { s.plc with plan := s.plc.plan ++ [s.requestEntry c], nextTag := s.plc.nextTag + 1 }, links := l }) ∧
      s.linkPending c = false ∧ s.Notifies (s.linkRequest c)) := by
  cases refused : s.linkRefused c with
  | true => exact .inl (State.linkRequest_refused refused)
  | false =>
    obtain ⟨⟨⟨up, -⟩, free⟩, -⟩ : ((s.hopUp = true ∧ s.htu.conflict = false) ∧ s.linkPending c = false) ∧ s.kindRefused c = false := by
      simpa [State.linkRefused] using refused
    obtain ⟨a, anchor⟩ := Option.isSome_iff_exists.1 up
    obtain ⟨l, e, notifies⟩ := State.linkRequest_accepted anchor refused
    exact .inr ⟨⟨a, l, anchor, e⟩, free, notifies⟩

section
variable {R : State → State → Prop} {own : Bool} (refl : ∀ s, R s s) (trans : ∀ {s t v : State}, R s t → R t v → R s v)
  (request : ∀ (s : State) c, R s (s.linkRequest c)) (expires : ∀ (c : Bool) (e : Expiry) (s : State), R s (expireIf own c e s))

include refl trans expires in
theorem State.poolExpiries_covered (old s : State) : R s (State.poolExpiries own old s) := by
  have expiries : ∀ {α : Type} (c : State → α → Bool) (e : α → Expiry) (xs : List α) (x : State),
      R x (xs.foldl (fun s a => expireIf own (c s a) (e a) s) x) :=
    fun c e xs x => foldl_covered R refl trans _ (fun s a => expires (c s a) (e a) s) xs x
  unfold State.poolExpiries
  exact trans (trans (expiries _ .penalty ids s) (expiries _ .backoff ids _)) (expiries _ (fun r : Substitution => .revertDwell r.s) _ _)

include refl request

theorem State.requestPromote_covered (s : State) (k : CarrierId) : R s (s.requestPromote k) := by
  unfold State.requestPromote
  split
  · split
    · exact request s _
    · exact refl s
  · exact refl s

theorem State.requestRevert_covered (s : State) (r : Substitution) (b : Bool) : R s (s.requestRevert r b) := by
  unfold State.requestRevert
  split
  · exact request s _
  · exact refl s

theorem State.limitPark_covered (s : State) (k : CarrierId) : R s (s.limitPark k) := by
  unfold State.limitPark
  split
  · exact request s _
  · exact refl s

theorem State.idlePark_covered (s : State) (u : UnitId) : R s (s.idlePark u) := by
  unfold State.idlePark
  split
  · exact request s _
  · exact refl s

theorem State.requestWake_covered (s : State) : R s s.requestWake := by
  unfold State.requestWake
  split
  · exact refl s
  · split
    · exact request s _
    · exact refl s

include expires in
theorem State.idleBoundary_covered (s : State) : R s (s.idleBoundary own) := by
  unfold State.idleBoundary
  split
  · rename_i u _
    split
    · exact expires true (.idlePark u) s
    · exact s.idlePark_covered refl request u
  · exact refl s

include trans

theorem State.limitParks_covered (s : State) : R s s.limitParks :=
  foldl_covered R refl trans _ (State.limitPark_covered refl request) _ s

theorem State.poolRequests_covered (s : State) (dwell : Substitution → Bool) : R s (s.poolRequests dwell) := by
  have parks : R s (if s.pbu.settling then s.limitParks else s) := by
    split
    · exact s.limitParks_covered refl trans request
    · exact refl s
  have promotes := trans parks (foldl_covered R refl trans _ (State.requestPromote_covered refl request) ids _)
  have revert : ∀ (x : State) (r : Substitution), R x (State.boundaryRevert dwell x r) := fun x r => by
    unfold State.boundaryRevert
    exact x.requestRevert_covered refl request r _
  have reverts : ∀ (rs : List Substitution) (x : State), R x (rs.foldl (State.boundaryRevert dwell) x) :=
    foldl_covered R refl trans _ revert
  unfold State.poolRequests
  exact trans (trans promotes (reverts _ _)) (State.requestWake_covered refl request _)

include expires in
/-- Once its counts have moved, the pool's part makes requests and lets expiries fall due (R127). -/
theorem State.poolBoundary_covered (s : State) : R s.poolCounts (s.poolBoundary own) := by
  have expired := State.poolExpiries_covered refl trans expires s s.poolCounts
  have requested := State.poolRequests_covered refl trans request (State.poolExpiries own s s.poolCounts)
    (State.poolExpiries own s s.poolCounts).dwellInside
  exact trans (trans expired requested) (State.idleBoundary_covered refl request expires _)

end

end Sys2Proof.Machine
end

section
/-! SUPPORT. What the operations of the part keep of the switch plan: at most one entry per unit and group (R79), no new AGREED entry but
by an answer (R88, R90), and an anchor that stands where the lowest LOCKED carrier is (R6). -/

namespace Sys2Proof.Machine

/-! ## The relations -/

/-- At most one TX_PROFILE, one RX_PROFILE and one LINK entry per unit (R79). -/
def State.OnePerGroup (s : State) : Prop := ∀ u, s.plc.plan.countP (Entry.isTxOf u) ≤ 1 ∧ s.plc.plan.countP (Entry.isRxOf u) ≤ 1
  ∧ s.plc.plan.countP (s.entryTouches u) ≤ 1

/-- Phase and settings stay, and so does the plan's law (R79). -/
structure State.KeepsGroups (s t : State) : Prop where
  running : t.running = s.running
  settings : t.settings = s.settings
  groups : s.OnePerGroup → t.OnePerGroup

/-- Beside that, no entry becomes due at any superframe. -/
structure State.KeepsTargets (s t : State) : Prop extends State.KeepsGroups s t where
  targets : ∀ h, t.plc.plan.countP (Entry.dueAt h) ≤ s.plc.plan.countP (Entry.dueAt h)

/-- Beside that, an anchor that stands at the lowest LOCKED carrier goes on doing so, and the hop does not take other numbers (R5, R6). -/
structure State.KeepsHop (s t : State) : Prop extends State.KeepsTargets s t where
  anchor : s.htu.anchor = s.lowestLocked → t.htu.anchor = t.lowestLocked ∧ t.htu.hsn = s.htu.hsn

section
variable {s t v : State}

theorem State.KeepsGroups.refl (s : State) : s.KeepsGroups s := ⟨rfl, rfl, fun h => h⟩
theorem State.KeepsTargets.refl (s : State) : s.KeepsTargets s := ⟨.refl s, fun _ => Nat.le_refl _⟩
theorem State.KeepsHop.refl (s : State) : s.KeepsHop s := ⟨.refl s, fun h => ⟨h, rfl⟩⟩

theorem State.KeepsGroups.trans (h : s.KeepsGroups t) (k : t.KeepsGroups v) : s.KeepsGroups v :=
  ⟨k.running.trans h.running, k.settings.trans h.settings, fun g => k.groups (h.groups g)⟩

theorem State.KeepsTargets.trans (h : s.KeepsTargets t) (k : t.KeepsTargets v) : s.KeepsTargets v :=
  ⟨h.toKeepsGroups.trans k.toKeepsGroups, fun x => (k.targets x).trans (h.targets x)⟩

theorem State.KeepsHop.trans (h : s.KeepsHop t) (k : t.KeepsHop v) : s.KeepsHop v where
  toKeepsTargets := h.toKeepsTargets.trans k.toKeepsTargets
  anchor a := ⟨(k.anchor (h.anchor a).1).1, (k.anchor (h.anchor a).1).2.trans (h.anchor a).2⟩

theorem State.entryTouches_congr (settings : t.settings = s.settings) : t.entryTouches = s.entryTouches := by
  funext u e
  have touches : ∀ c, t.touches c = s.touches c := fun c => by
    cases c <;> simp only [State.touches, State.unitOf_congr settings]
  simp only [State.entryTouches, touches]

/-- Entries that leave the plan leave its law and make nothing due. -/
theorem State.KeepsTargets.of (running : t.running = s.running) (settings : t.settings = s.settings)
    (plan : t.plc.plan.Sublist s.plc.plan) : s.KeepsTargets t := by
  refine ⟨⟨running, settings, fun g u => ?_⟩, fun h => plan.countP_le⟩
  rw [State.entryTouches_congr settings]
  exact ⟨plan.countP_le.trans (g u).1, plan.countP_le.trans (g u).2.1, plan.countP_le.trans (g u).2.2⟩

/-- The lowest LOCKED carrier is read from roles and link states (R6). -/
theorem State.lowestLocked_locked (settings : t.settings = s.settings) (locked : ∀ j, t.isLocked j = s.isLocked j) :
    t.lowestLocked = s.lowestLocked := by
  simp only [State.lowestLocked, State.role, settings, locked]

theorem State.KeepsTargets.hop (h : s.KeepsTargets t) (locked : ∀ j, t.isLocked j = s.isLocked j)
    (anchor : t.htu.anchor = s.htu.anchor) (hsn : t.htu.hsn = s.htu.hsn) : s.KeepsHop t :=
  ⟨h, fun a => ⟨by rw [anchor, a, State.lowestLocked_locked h.settings locked], hsn⟩⟩

/-- An operation that leaves phase, settings, numbers, anchor and link states, and at most thins the plan. -/
theorem State.KeepsHop.of (running : t.running = s.running) (settings : t.settings = s.settings)
    (plan : t.plc.plan.Sublist s.plc.plan) (clc : t.clc = s.clc) (anchor : t.htu.anchor = s.htu.anchor)
    (hsn : t.htu.hsn = s.htu.hsn) : s.KeepsHop t :=
  (State.KeepsTargets.of running settings plan).hop (State.isLocked_congr clc) anchor hsn

/-- An operation that leaves the plan, the controllers and the numbers alone. -/
theorem State.KeepsHop.same (running : t.running = s.running) (settings : t.settings = s.settings) (plan : t.plc.plan = s.plc.plan)
    (clc : t.clc = s.clc) (htu : t.htu = s.htu) : s.KeepsHop t :=
  .of running settings (by rw [plan]) clc (by rw [htu]) (by rw [htu])

theorem State.OnlyQueues.keepsHop (h : s.OnlyQueues t) : s.KeepsHop t := by
  obtain ⟨_, _, rfl⟩ := h
  exact .same rfl rfl rfl rfl rfl

theorem State.OnlyLinks.keepsHop (h : s.OnlyLinks t) : s.KeepsHop t := h.queues.keepsHop

theorem State.OnlySched.keepsHop (h : s.OnlySched t) : s.KeepsHop t := h.queues.keepsHop

theorem State.OnlyReceive.keepsHop (h : s.OnlyReceive t) : s.KeepsHop t := by
  obtain ⟨_, _, _, rfl⟩ := h
  exact .same rfl rfl rfl rfl rfl

theorem State.OnlyLevels.keepsHop (h : s.OnlyLevels t) : s.KeepsHop t := by
  obtain ⟨_, _, _, rfl⟩ := h
  exact .same rfl rfl rfl rfl rfl

end

theorem foldl_keepsHop {α : Type} {f : State → α → State} (h : ∀ (s : State) x, s.KeepsHop (f s x)) (xs : List α) (s : State) :
    s.KeepsHop (xs.foldl f s) := foldl_covered _ .refl .trans f h xs s

theorem State.setClc_keepsHop (s : State) (k : CarrierId) {f : Clc → Clc} (link : ∀ c, (f c).link = c.link) :
    s.KeepsHop (s.setClc k f) := by
  have targets : s.KeepsTargets (s.setClc k f) := .of rfl rfl (.refl _)
  refine targets.hop (fun j => ?_) rfl rfl
  simp only [State.isLocked, State.link, State.setClc_clc, Four.get_modify]
  split
  · rw [link]
  · rfl

theorem State.setAde_keepsHop (s : State) (u : UnitId) (f : Ade → Ade) : s.KeepsHop (s.setAde u f) := .same rfl rfl rfl rfl rfl

theorem State.setFtr_keepsHop (s : State) (k : CarrierId) (f : Ftr → Ftr) : s.KeepsHop (s.setFtr k f) := .same rfl rfl rfl rfl rfl

theorem State.setLink_keepsHop (s : State) (j : TenantId) (f : Tli → Tli) : s.KeepsHop (s.setLink j f) := .same rfl rfl rfl rfl rfl

theorem State.offer_keepsHop (s : State) (k : CarrierId) (m : Message) : s.KeepsHop (s.offer k m) := .same rfl rfl rfl rfl rfl

theorem State.command_keepsHop (s : State) (k : CarrierId) (c : ModemCommand) : s.KeepsHop (s.command k c) := .same rfl rfl rfl rfl rfl

theorem State.raiseAll_keepsHop (s : State) (f : BitVec 8) : s.KeepsHop (s.raiseAll f) := .same rfl rfl rfl rfl rfl

/-! ## Entries that come and go (R71, R79, R83, R91–R94) -/

theorem State.eraseEntries_keepsHop (s : State) (p : Entry → Bool) : s.KeepsHop (s.eraseEntries p) := by
  obtain ⟨l, e⟩ := (s.setPlc fun c => { c with plan := c.plan.filter fun e => !p e }).planFlag_only (s.plc.plan.filter p)
  rw [State.eraseEntries, e]
  exact .of rfl rfl List.filter_sublist rfl rfl rfl

theorem State.removeEntries_keepsHop (s : State) (p : Entry → Bool) : s.KeepsHop (s.removeEntries p) := by
  obtain ⟨a, d, l, e, -⟩ := s.removeEntries_shape p
  rw [e]
  exact .of rfl rfl List.filter_sublist rfl rfl rfl

/-- A new entry keeps the law where the plan holds none of its group for its unit (R79). -/
theorem State.OnePerGroup.append {s t : State} {e : Entry} (h : s.OnePerGroup) (settings : t.settings = s.settings)
    (plan : t.plc.plan = s.plc.plan ++ [e])
    (tx : ∀ u, e.isTxOf u = true → s.plc.plan.countP (Entry.isTxOf u) = 0)
    (rx : ∀ u, e.isRxOf u = true → s.plc.plan.countP (Entry.isRxOf u) = 0)
    (link : ∀ u, s.entryTouches u e = true → s.plc.plan.countP (s.entryTouches u) = 0) : t.OnePerGroup := by
  have count : ∀ p : Entry → Bool, s.plc.plan.countP p ≤ 1 → (p e = true → s.plc.plan.countP p = 0) →
      t.plc.plan.countP p ≤ 1 := by
    intro p few none'
    rw [plan, List.countP_append, List.countP_singleton]
    split
    · rename_i new
      rw [none' new]
    · exact few
  intro u
  rw [State.entryTouches_congr settings]
  exact ⟨count _ (h u).1 (tx u), count _ (h u).2.1 (rx u), count _ (h u).2.2 (link u)⟩

/-- A LINK change with nothing pending in its way touches no unit that a LINK entry touches (R79, R83, R85). -/
theorem State.linkPending_none {s : State} {c : LinkChange} (free : s.linkPending c = false) {u : UnitId} {e : Entry}
    (change : e.change = .link c) (touched : s.entryTouches u e = true) : s.plc.plan.countP (s.entryTouches u) = 0 := by
  have member : u ∈ s.touches c := by simpa [State.entryTouches, Entry.link?, change] using touched
  rw [List.countP_eq_zero]
  intro x mem touches
  exact absurd free (by
    simp only [State.linkPending, List.any_eq_true, State.linkTouches, Bool.not_eq_false]
    exact ⟨u, member, x, mem, touches⟩)

theorem State.addEntry_plan (s : State) (e : Entry) : ∃ l, s.addEntry e =
    { s with plc := { s.plc with plan := s.plc.plan ++ [e] }, links := l } := by
  obtain ⟨l, h⟩ := (s.setPlc fun p => { p with plan := p.plan ++ [e] }).planFlag_only [e]
  exact ⟨l, h⟩

/-- A LINK entry with nothing pending in its way keeps the law (R79). -/
theorem State.addLink_keepsGroups {s : State} {c : LinkChange} {e : Entry} (change : e.change = .link c)
    (free : s.linkPending c = false) : s.KeepsGroups (s.addEntry e) := by
  obtain ⟨l, added⟩ := s.addEntry_plan e
  refine ⟨by rw [added], by rw [added], fun h => h.append (e := e) (by rw [added]) (by rw [added]) ?_ ?_ fun u => ?_⟩
  · simp [Entry.isTxOf, change]
  · simp [Entry.isRxOf, change]
  · exact State.linkPending_none free change

theorem Entry.dueAt_iff {h : Hsn} {e : Entry} : e.dueAt h = true ↔ e.isRx = false ∧ e.state = .agreed ∧ e.target = some h := by
  simp [Entry.dueAt, and_assoc]

/-- Counting the due entries of a plan tells whether there is one. -/
theorem State.noneDue_iff {s : State} {h : Hsn} : s.noneDue h ↔ s.plc.plan.countP (Entry.dueAt h) = 0 := by
  simp only [State.noneDue, List.countP_eq_zero, Entry.dueAt_iff, not_and, ne_eq]

theorem State.KeepsTargets.noneDue {s t : State} {h : Hsn} (k : s.KeepsTargets t) (none' : s.noneDue h) : t.noneDue h :=
  State.noneDue_iff.2 (Nat.le_zero.1 ((k.targets h).trans (State.noneDue_iff.1 none').le))

/-- A PROPOSED entry is not due. -/
theorem countP_dueAt_append (h : Hsn) (es : List Entry) {e : Entry} (proposed : e.state = .proposed) :
    (es ++ [e]).countP (Entry.dueAt h) ≤ es.countP (Entry.dueAt h) := by
  have open' : e.dueAt h = false := by simp [Entry.dueAt, proposed]
  simp [List.countP_append, open']

/-- An accepted request meets no LINK entry in its way; its entry is PROPOSED (R79, R83). -/
theorem State.linkRequest_keepsHop (s : State) (c : LinkChange) : s.KeepsHop (s.linkRequest c) := by
  obtain refused | ⟨⟨a, l, -, e⟩, free, -⟩ := s.linkRequest_cases c
  · rw [refused]
    exact .refl s
  · have requested : (s.linkRequest c).plc.plan = s.plc.plan ++ [s.requestEntry c] := by rw [e]
    have settings : (s.linkRequest c).settings = s.settings := by rw [e]
    refine State.KeepsTargets.hop ⟨⟨by rw [e], settings, fun h => h.append settings requested ?_ ?_ fun u => ?_⟩, fun h => ?_⟩
      (fun j => by rw [e]; rfl) (by rw [e]) (by rw [e])
    · simp [State.requestEntry, Entry.isTxOf]
    · simp [State.requestEntry, Entry.isRxOf]
    · exact State.linkPending_none free rfl
    · rw [requested]
      exact countP_dueAt_append h _ rfl

theorem State.requestPromote_keepsHop (s : State) (k : CarrierId) : s.KeepsHop (s.requestPromote k) :=
  s.requestPromote_covered .refl State.linkRequest_keepsHop k

theorem State.requestRevert_keepsHop (s : State) (r : Substitution) (b : Bool) : s.KeepsHop (s.requestRevert r b) :=
  s.requestRevert_covered .refl State.linkRequest_keepsHop r b

theorem State.requestRevertsOf_keepsHop (s : State) (k : CarrierId) : s.KeepsHop (s.requestRevertsOf k) :=
  foldl_keepsHop (fun s r => s.requestRevert_keepsHop r (s.revertNow r)) _ s

/-- A profile proposal takes the place of the unit's RX_PROFILE entry (R71, R79). -/
theorem State.proposeProfile_keepsHop (s : State) (u : UnitId) (q : Nat) : s.KeepsHop (s.proposeProfile u q) := by
  obtain ⟨a, d, l, removed, -⟩ := s.removeEntries_shape (Entry.isRxOf u)
  have added : ∀ x : State, (x.plc.plan.countP (Entry.isRxOf u) = 0) → x.KeepsHop
      (x.bumpTag.addEntry ⟨x.plc.nextTag, .rxProfile u q, none, .local, .proposed, 0⟩) := by
    intro x none'
    obtain ⟨l, e⟩ := x.bumpTag.addEntry_plan ⟨x.plc.nextTag, .rxProfile u q, none, .local, .proposed, 0⟩
    rw [e]
    refine State.KeepsTargets.hop ⟨⟨rfl, rfl, fun h => h.append rfl rfl ?_ (fun v own => ?_) ?_⟩, fun h => ?_⟩ (fun _ => rfl) rfl rfl
    · simp [Entry.isTxOf]
    · have same : u = v := by simpa [Entry.isRxOf] using own
      rw [← same]
      exact none'
    · simp [State.entryTouches, Entry.link?]
    · exact countP_dueAt_append h _ rfl
  have emptied : (s.removeEntries (Entry.isRxOf u)).plc.plan.countP (Entry.isRxOf u) = 0 := by
    rw [removed, List.countP_eq_zero]
    intro e mem
    simpa using (List.mem_filter.1 mem).2
  exact (((s.removeEntries_keepsHop _).trans (added _ emptied)).trans (State.offer_keepsHop _ _ _)).trans (State.setAde_keepsHop _ _ _)

end Sys2Proof.Machine
end

section
/-! SUPPORT. What changes of link state, applied entries and decisions keep of the plan and the hop (R6, R7, R31, R38, R79, R97). -/

namespace Sys2Proof.Machine

/-! ## The hop (R5, R6, R7) -/

theorem State.settleCheck_keepsHop (s : State) : s.KeepsHop s.settleCheck := by
  obtain ⟨b, l, e⟩ := s.settleCheck_only
  rw [e]
  exact .same rfl rfl rfl rfl rfl

theorem State.goHopDown_keepsHop (s : State) : s.KeepsHop s.goHopDown := by
  have plan : s.KeepsHop s.planHopDown := (s.removeEntries_keepsHop _).trans (.same rfl rfl rfl rfl rfl)
  have view : ∀ x : State, x.KeepsHop x.viewHopDown := fun x => .of rfl rfl (.refl _) rfl rfl rfl
  have pool : ∀ x : State, x.KeepsHop x.poolHopDown := fun x => by
    obtain ⟨l, e, -⟩ := x.poolHopDown_shape
    rw [e]
    exact .same rfl rfl rfl rfl rfl
  have credit : ∀ x : State, x.KeepsHop x.creditHopDown := fun x => .same rfl rfl rfl rfl rfl
  exact ((((plan.trans (view _)).trans (pool _)).trans (State.formCapacity_only _).keepsHop).trans (credit _)).trans
    (State.raiseAll_keepsHop _ _)

theorem State.reanchor_keepsTargets (s : State) : s.KeepsTargets s.reanchor := by
  cases new : s.lowestLocked with
  | some b =>
    obtain ⟨n, f, l, e, -⟩ := State.reanchor_shape new
    rw [e]
    exact .of rfl rfl (.refl _)
  | none =>
    have anchored : s.KeepsTargets (s.anchoredAt none) := .of rfl rfl (.refl _)
    cases old : s.htu.anchor with
    | some a =>
      rw [State.reanchor_down old new]
      exact anchored.trans (State.goHopDown_keepsHop _).toKeepsTargets
    | none =>
      rw [State.reanchor, old, new]
      exact anchored

/-- Unless the hop comes up, the anchor is formed anew with numbers and controllers as they are (R6). -/
theorem State.reanchor_anchors {s : State} (stays : s.htu.anchor = none → s.lowestLocked = none) :
    s.reanchor.htu.anchor = s.lowestLocked ∧ s.reanchor.htu.hsn = s.htu.hsn ∧ s.reanchor.clc = s.clc := by
  cases old : s.htu.anchor with
  | some a => exact ⟨State.reanchor_anchor old, (State.reanchor_unwinds old).hsn, (State.reanchor_unwinds old).clc⟩
  | none =>
    rw [State.reanchor, old, stays old]
    exact ⟨rfl, rfl, rfl⟩

/-! ## A change of link state (R29, R31, R38) -/

theorem State.releaseUnit_keepsHop (s : State) (u : UnitId) : s.KeepsHop (s.releaseUnit u) := by
  have unlocked : ∀ x : State, x.KeepsHop (x.unlockUnit u) := fun x => by
    unfold State.unlockUnit
    split
    · exact .refl x
    · have steadied : x.KeepsHop (x.steadied u) := .same rfl rfl rfl rfl rfl
      rw [State.unitUnlocked_eq]
      exact steadied.trans (State.removeEntries_keepsHop _ _)
  exact (((s.releaseHold_only u).keepsHop.trans (unlocked _)).trans (State.unlockService_only _ u).keepsHop).trans
    (State.closeIfTaken_only _ u).keepsHop

theorem State.clearDwell_keepsHop (s : State) (k : CarrierId) : s.KeepsHop (s.clearDwell k) := .same rfl rfl rfl rfl rfl

theorem State.lossRequests_keepsHop (s : State) (k : CarrierId) :
    s.KeepsHop (((s.clearDwell k).requestRevertsOf k).requestPromote k) :=
  ((s.clearDwell_keepsHop k).trans (State.requestRevertsOf_keepsHop _ k)).trans (State.requestPromote_keepsHop _ k)

theorem State.afterUnlock_keepsTargets (s : State) (k : CarrierId) : s.KeepsTargets (s.afterUnlock k) := by
  unfold State.afterUnlock
  split
  · exact s.reanchor_keepsTargets
  · rename_i u _
    exact ((s.releaseUnit_keepsHop u).toKeepsTargets.trans (State.reanchor_keepsTargets _)).trans
      (State.lossRequests_keepsHop _ k).toKeepsTargets

/-- A loss of lock that does not bring the hop up leaves its numbers, and the anchor at the lowest LOCKED carrier (R6, R31). -/
theorem State.afterUnlock_anchors {s : State} (k : CarrierId) (stays : s.htu.anchor = none → s.lowestLocked = none) :
    (s.afterUnlock k).htu.anchor = (s.afterUnlock k).lowestLocked ∧ (s.afterUnlock k).htu.hsn = s.htu.hsn := by
  have formed : ∀ x : State, (x.htu.anchor = none → x.lowestLocked = none) →
      x.reanchor.htu.anchor = x.reanchor.lowestLocked ∧ x.reanchor.htu.hsn = x.htu.hsn := fun x h => by
    obtain ⟨anchor, hsn, clc⟩ := State.reanchor_anchors h
    exact ⟨anchor.trans (State.lowestLocked_congr x.reanchor_keepsTargets.settings clc).symm, hsn⟩
  unfold State.afterUnlock
  split
  · exact formed s stays
  · rename_i u _
    obtain ⟨_, _, _, _, _, _, released, -⟩ := (s.releaseUnit_released u).shape
    have lowest : (s.releaseUnit u).lowestLocked = s.lowestLocked := State.lowestLocked_congr (by rw [released]) (by rw [released])
    have htu : (s.releaseUnit u).htu = s.htu := by rw [released]
    obtain ⟨anchor, hsn⟩ := formed (s.releaseUnit u) (by rw [htu, lowest]; exact stays)
    have requested := ((s.releaseUnit u).reanchor.lossRequests_keepsHop k).anchor anchor
    exact ⟨requested.1, requested.2.trans (hsn.trans (congrArg Htu.hsn htu))⟩

theorem State.afterLock_keepsTargets (s : State) (k : CarrierId) : s.KeepsTargets (s.afterLock k) := by
  unfold State.afterLock
  split
  · exact s.reanchor_keepsTargets
  · rename_i u _
    obtain ⟨a, p, i, e, -⟩ := s.firstLock_shape k u
    have first : s.KeepsTargets (s.firstLock k u) := .of (by rw [e]) (by rw [e]) (by rw [e])
    exact ((first.trans (State.fitLevel_only _ k).keepsHop.toKeepsTargets).trans (State.reanchor_keepsTargets _)).trans
      (State.requestRevertsOf_keepsHop _ k).toKeepsTargets

theorem State.moved_keepsTargets (s : State) (k : CarrierId) (c : Clc) : s.KeepsTargets (s.moved k c) := .of rfl rfl (.refl _)

theorem State.changeLink_keepsTargets (s : State) (k : CarrierId) (f : Clc → Clc) : s.KeepsTargets (s.changeLink k f) := by
  unfold State.changeLink
  dsimp only
  rw [State.moved_eq]
  refine ((s.moved_keepsTargets k (f (s.clc.get k))).trans ?_).trans (State.settleCheck_keepsHop _).toKeepsTargets
  unfold State.handOn
  split
  · exact State.afterUnlock_keepsTargets _ k
  · split
    · exact State.afterLock_keepsTargets _ k
    · exact .refl _

theorem State.moved_isLocked (s : State) (k j : CarrierId) (c : Clc) :
    (s.moved k c).isLocked j = if j = k then c.link == .locked else s.isLocked j := by
  simp only [State.isLocked, State.link, State.moved, Four.get_set]
  split <;> rfl

/-- A hop without an anchor stays without a LOCKED carrier when one more is not LOCKED (R6). -/
theorem State.moved_stays {s : State} {k : CarrierId} {c : Clc} (anchored : s.htu.anchor = s.lowestLocked) (apart : c.link ≠ .locked) :
    (s.moved k c).htu.anchor = none → (s.moved k c).lowestLocked = none := by
  intro none'
  have none'' : s.lowestLocked = none := anchored.symm.trans none'
  rw [State.lowestLocked, List.find?_eq_none] at none'' ⊢
  intro j mem locked
  rw [State.moved_isLocked] at locked
  refine none'' j mem ?_
  split at locked
  · simp [apart] at locked
  · exact locked

/-- A carrier that does not enter LOCKED (R6, R7, R38). -/
theorem State.changeLink_keepsHop {s : State} {k : CarrierId} {f : Clc → Clc} (apart : (f (s.clc.get k)).link ≠ .locked) :
    s.KeepsHop (s.changeLink k f) := by
  refine ⟨s.changeLink_keepsTargets k f, fun anchored => ?_⟩
  by_cases was : s.link k = .locked
  · rw [State.changeLink_fromLocked was]
    obtain ⟨anchor, hsn⟩ := State.afterUnlock_anchors k (State.moved_stays anchored apart)
    have settled := (State.settleCheck_keepsHop ((s.moved k (f (s.clc.get k))).afterUnlock k)).anchor anchor
    exact ⟨settled.1, settled.2.trans hsn⟩
  · rw [State.changeLink_apart was apart]
    refine (((s.moved_keepsTargets k _).hop (fun j => ?_) rfl rfl).trans (State.settleCheck_keepsHop _)).anchor anchored
    rw [State.moved_isLocked]
    split
    · rename_i own
      rw [own, State.isLocked, beq_eq_false_iff_ne.2 apart, beq_eq_false_iff_ne.2 was]
    · rfl

/-! ## Starts, timeouts, faults (R26, R32–R37) -/

theorem State.tryStart_keepsHop {s t : State} {k : CarrierId} {mark : Bool} (h : s.tryStart k mark = some t) : s.KeepsHop t := by
  unfold State.tryStart at h
  split at h
  · cases h
    refine .trans ?_ (State.changeLink_keepsHop nofun)
    exact .same rfl rfl rfl rfl rfl
  · cases h

theorem State.startOrStay_keepsHop (s : State) (k : CarrierId) (mark : Bool) : s.KeepsHop (s.startOrStay k mark) := by
  unfold State.startOrStay
  cases h : s.tryStart k mark with
  | none => exact .refl s
  | some t => exact State.tryStart_keepsHop h

theorem State.faultCarrier_keepsHop (s : State) (k : CarrierId) : s.KeepsHop (s.faultCarrier k) :=
  (s.command_keepsHop k _).trans (State.changeLink_keepsHop nofun)

theorem State.parkCarrier_keepsHop (s : State) (k : CarrierId) : s.KeepsHop (s.parkCarrier k) := by
  unfold State.parkCarrier
  split
  · exact (s.command_keepsHop k _).trans (State.changeLink_keepsHop nofun)
  · exact (s.command_keepsHop k _).trans (State.changeLink_keepsHop nofun)
  · exact State.changeLink_keepsHop nofun
  all_goals exact .refl s

theorem State.wakingTimeout_keepsHop (s : State) (k : CarrierId) : s.KeepsHop (s.wakingTimeout k) := by
  unfold State.wakingTimeout
  split
  · exact s.faultCarrier_keepsHop k
  · exact .refl s

theorem State.acquireTimeout_keepsHop (s : State) (k : CarrierId) : s.KeepsHop (s.acquireTimeout k) := by
  unfold State.acquireTimeout
  dsimp only
  split
  · refine (s.command_keepsHop k .mute).trans ?_
    split
    · split
      · have penalty : (s.command k .mute).KeepsHop ((s.command k .mute).setPenalty k) := .same rfl rfl rfl rfl rfl
        exact penalty.trans (State.changeLink_keepsHop nofun)
      · exact State.changeLink_keepsHop nofun
    · exact State.changeLink_keepsHop nofun
  · exact .refl s

theorem State.holdoffEnd_keepsHop (s : State) (k : CarrierId) : s.KeepsHop (s.holdoffEnd k) := by
  unfold State.holdoffEnd
  split
  · split
    · rename_i h
      exact State.tryStart_keepsHop h
    · exact s.setClc_keepsHop k fun _ => rfl
  · exact .refl s

theorem State.faultRetry_keepsHop (s : State) (k : CarrierId) : s.KeepsHop (s.faultRetry k) := by
  unfold State.faultRetry
  dsimp only
  split
  · exact (s.command_keepsHop k _).trans (State.changeLink_keepsHop nofun)
  · exact .refl s

theorem State.recoveryAttempt_keepsHop (s : State) : s.KeepsHop s.recoveryAttempt := by
  unfold State.recoveryAttempt
  split
  · split
    · split
      · rename_i t h
        have counted : t.KeepsHop { t with htu := { t.htu with recovery := 0 } } := .of rfl rfl (.refl _) rfl rfl rfl
        exact (State.tryStart_keepsHop h).trans counted
      · exact .refl s
    · exact .refl s
  · exact .refl s

/-! ## The apply of entries (R95–R97) -/

theorem State.applyPromote_keepsHop (s : State) (c d : CarrierId) : s.KeepsHop (s.applyPromote c d) := by
  unfold State.applyPromote
  dsimp only
  split
  · have roles : s.KeepsHop (((s.setActing c .traffic).setActing d .displaced).addSubstitution c d) := .same rfl rfl rfl rfl rfl
    split
    · exact roles.trans (State.loseUnitOf_only _ _).keepsHop
    · exact roles.trans (State.formCapacity_only _).keepsHop
  · exact .refl s

theorem State.applyRevert_keepsHop (s : State) (c d : CarrierId) : s.KeepsHop (s.applyRevert c d) := by
  unfold State.applyRevert
  dsimp only
  split
  · exact .same rfl rfl rfl rfl rfl
  · exact .refl s

theorem State.endDraining_keepsHop (s : State) (k : CarrierId) (was : Bool) : s.KeepsHop (s.endDraining k was) := by
  unfold State.endDraining
  split
  · split
    · rename_i u _ _
      have cleared : s.KeepsHop (s.clearDraining u) := .same rfl rfl rfl rfl rfl
      exact cleared.trans (State.formCapacity_only _).keepsHop
    · exact .refl s
  · exact .refl s

theorem State.applyChange_keepsHop (s : State) (c : Change) : s.KeepsHop (s.applyChange c) := by
  unfold State.applyChange
  split
  · rename_i u q
    have profile : s.KeepsHop (s.setPlc fun p => { p with txProfile := p.txProfile.set u q }) := .same rfl rfl rfl rfl rfl
    exact profile.trans (State.formCapacity_only _).keepsHop
  · exact .refl s
  · exact ((s.flushDraining_only _).keepsHop.trans (State.parkCarrier_keepsHop _ _)).trans (State.endDraining_keepsHop _ _ _)
  · split
    · exact s.startOrStay_keepsHop _ _
    · exact .refl s
  · exact s.applyPromote_keepsHop _ _
  · exact (((s.applyRevert_keepsHop _ _).trans (State.flushDraining_only _ _).keepsHop).trans
      (State.endDraining_keepsHop _ _ _)).trans (State.formCapacity_only _).keepsHop

theorem State.applyEntry_keepsHop (s : State) (e : Entry) : s.KeepsHop (s.applyEntry e) :=
  (s.eraseEntries_keepsHop _).trans (State.applyChange_keepsHop _ _)

theorem State.applyUpTo_keepsHop (h : Hsn) (n : Nat) (s : State) : s.KeepsHop (State.applyUpTo h n s) := by
  induction n generalizing s with
  | zero => exact .refl s
  | succ n ih =>
    unfold State.applyUpTo
    split
    · exact (s.applyEntry_keepsHop _).trans (ih _)
    · exact .refl s

theorem State.applyDue_keepsHop (s : State) (h : Hsn) : s.KeepsHop (s.applyDue h) := State.applyUpTo_keepsHop h _ s

/-! ## Adaptation Engine (R62–R67, R69, R72) -/

theorem State.offerAsk_keepsHop (s : State) (u : UnitId) (c : CarrierId) (n : Int) : s.KeepsHop (s.offerAsk u c n) :=
  .same rfl rfl rfl rfl rfl

theorem State.powerDown_keepsHop (s : State) (u : UnitId) (c : CarrierId) (m : Nat) : s.KeepsHop (s.powerDown u c m) := by
  unfold State.powerDown
  dsimp only
  split
  · exact s.offerAsk_keepsHop u c _
  · exact .refl s

theorem State.deficit_keepsHop (s : State) (u : UnitId) (c : CarrierId) (m : Nat) : s.KeepsHop (s.deficit u c m) := by
  unfold State.deficit
  dsimp only
  split
  · exact s.offerAsk_keepsHop u c _
  · split
    · exact s.proposeProfile_keepsHop u _
    · exact .refl s

theorem State.surplus_keepsHop (s : State) (u : UnitId) (c : CarrierId) (m : Nat) : s.KeepsHop (s.surplus u c m) := by
  unfold State.surplus
  dsimp only
  split
  · split
    · split
      · exact s.proposeProfile_keepsHop u _
      · exact .refl s
    · exact s.powerDown_keepsHop u c m
  · exact s.powerDown_keepsHop u c m
  · exact s.powerDown_keepsHop u c m
  · exact .refl s

theorem State.decideUnit_keepsHop (s : State) (u : UnitId) : s.KeepsHop (s.decideUnit u) := by
  unfold State.decideUnit
  split
  · dsimp only
    split
    · split
      · exact s.deficit_keepsHop u _ _
      · exact s.surplus_keepsHop u _ _
    · exact .refl s
  · exact .refl s

theorem State.askExpiry_keepsHop (s : State) (u : UnitId) : s.KeepsHop (s.askExpiry u) := by
  unfold State.askExpiry
  split
  · have ended : s.KeepsHop (s.endAsk u) := .same rfl rfl rfl rfl rfl
    exact ended.trans (State.decideUnit_keepsHop _ u)
  · exact .refl s

theorem State.enterDropping_keepsHop (s : State) (u : UnitId) : s.KeepsHop (s.enterDropping u) :=
  (s.removeEntries_keepsHop _).trans (State.setAde_keepsHop _ _ _)

/-! ## Power and pool (R107, R116–R119, R127–R136) -/

theorem State.limitParks_keepsHop (s : State) : s.KeepsHop s.limitParks := s.limitParks_covered .refl .trans State.linkRequest_keepsHop

theorem State.reportDrop_keepsHop (levels : Four Nat) (s : State) (k : CarrierId) : s.KeepsHop (s.reportDrop levels k) := by
  unfold State.reportDrop
  dsimp only
  split
  · exact .refl s
  · refine (s.setLevel_only k (levels.get k)).keepsHop.trans ?_
    split
    · split
      · exact State.offer_keepsHop _ _ _
      · exact .refl _
    · exact .refl _

theorem State.debounceExpiry_keepsHop (s : State) : s.KeepsHop s.debounceExpiry := by
  unfold State.debounceExpiry
  dsimp only
  split
  · refine .trans (t := ({ s with pbu := { s.pbu with effective := s.pbu.target, debounce := 0 } } : State).raiseAll flagPower)
      (.same rfl rfl rfl rfl rfl) ?_
    split
    · have settling : ∀ x : State, x.KeepsHop x.setSettling := fun x => by
        unfold State.setSettling
        split
        · exact .same rfl rfl rfl rfl rfl
        · exact x.settleCheck_keepsHop
      exact ((foldl_keepsHop (State.reportDrop_keepsHop _) ids _).trans (State.limitParks_keepsHop _)).trans (settling _)
    · exact State.settleCheck_keepsHop _
  · exact .refl s

theorem State.idlePark_keepsHop (s : State) (u : UnitId) : s.KeepsHop (s.idlePark u) :=
  s.idlePark_covered .refl State.linkRequest_keepsHop u

theorem State.revertDwellReached_keepsHop (s : State) (c : CarrierId) : s.KeepsHop (s.revertDwellReached c) := by
  unfold State.revertDwellReached
  split
  · exact s.requestRevert_keepsHop _ _
  · exact .refl s

/-! ## Expiries of the plan (R92, R94) -/

theorem State.backOffEntry_keepsHop (s : State) (e : Entry) : s.KeepsHop (s.backOffEntry e) := by
  unfold State.backOffEntry
  split
  · split
    · exact .same rfl rfl rfl rfl rfl
    · exact .refl s
  · exact .refl s
  · exact .refl s

theorem State.proposalTimeout_keepsHop (s : State) (tag : Tag) : s.KeepsHop (s.proposalTimeout tag) := by
  unfold State.proposalTimeout
  split
  · split
    · exact (s.removeEntries_keepsHop _).trans (State.backOffEntry_keepsHop _ _)
    · exact .refl s
  · exact .refl s

theorem State.rxPastTarget_keepsHop (s : State) (u : UnitId) : s.KeepsHop (s.rxPastTarget u) := by
  unfold State.rxPastTarget
  split
  · exact (s.removeEntries_keepsHop _).trans (State.setAde_keepsHop _ _ _)
  · exact .refl s

/-- An expiry, whichever it is (log 2). -/
theorem runExpiry_keepsHop (s : State) (e : Expiry) : s.KeepsHop (runExpiry s e) := by
  cases e with
  | waking k => exact s.wakingTimeout_keepsHop k
  | acquire k => exact s.acquireTimeout_keepsHop k
  | holdoff k => exact s.holdoffEnd_keepsHop k
  | retry k => exact s.faultRetry_keepsHop k
  | recovery => exact s.recoveryAttempt_keepsHop
  | debounce => exact s.debounceExpiry_keepsHop
  | ask u => exact s.askExpiry_keepsHop u
  | proposal tag => exact s.proposalTimeout_keepsHop tag
  | rxPast u => exact s.rxPastTarget_keepsHop u
  | idlePark u => exact s.idlePark_keepsHop u
  | revertDwell c => exact s.revertDwellReached_keepsHop c
  | stall j l => exact (s.stallLimit_only j l).keepsHop
  | penalty | backoff | dropHold | upDwell | branchDwell => exact .refl s

theorem expire_keepsHop (own : Bool) (e : Expiry) (s : State) : s.KeepsHop (expire own e s) := by
  unfold expire
  split
  · exact .same rfl rfl rfl rfl rfl
  · exact runExpiry_keepsHop s e

theorem expireIf_keepsHop (own c : Bool) (e : Expiry) (s : State) : s.KeepsHop (expireIf own c e s) := by
  unfold expireIf
  split
  · exact expire_keepsHop own e s
  · exact .refl s

/-! ## The boundary (R2) -/

theorem State.clcBoundary_keepsHop (own : Bool) (began : Four LinkState) (s : State) (k : CarrierId) :
    s.KeepsHop (s.clcBoundary own began k) := by
  have counted : ∀ (f : Clc → Clc) (c : State → Bool) (e : Expiry), (∀ c, (f c).link = c.link) →
      s.KeepsHop (expireIf own (c (s.setClc k f)) e (s.setClc k f)) := fun f c e link =>
    (s.setClc_keepsHop k link).trans (expireIf_keepsHop _ _ _ _)
  unfold State.clcBoundary
  dsimp only
  split
  · exact .refl s
  · split
    · split
      · exact .refl s
      · refine .trans ?_ (State.formCapacity_only _).keepsHop
        exact s.setClc_keepsHop k fun _ => rfl
    · exact counted _ (fun s => acquireLimit ≤ (s.clc.get k).acquireCount) _ fun _ => rfl
    · exact counted _ (fun s => holdoffLimit ≤ (s.clc.get k).holdoffCount) _ fun _ => rfl
    · exact counted _ (fun s => wakingLimit ≤ (s.clc.get k).wakingCount) _ fun _ => rfl
    · split
      · exact counted _ (fun s => retryLimit ≤ (s.clc.get k).retryCount) _ fun _ => rfl
      · exact .refl s
    · exact .refl s

theorem State.recoveryBoundary_keepsHop (own : Bool) (s : State) : s.KeepsHop (s.recoveryBoundary own) := by
  unfold State.recoveryBoundary
  split
  · exact .refl s
  · refine .trans ?_ (expireIf_keepsHop _ _ _ _)
    exact .of rfl rfl (.refl _) rfl rfl rfl

theorem State.setCombiner_keepsHop (s : State) (k : CarrierId) (m : Combiner) : s.KeepsHop (s.setCombiner k m) := by
  unfold State.setCombiner
  dsimp only
  split
  · exact s.setFtr_keepsHop k _
  · exact (s.setFtr_keepsHop k _).trans (State.command_keepsHop _ _ _)

theorem State.fadeBoundary_keepsHop (own : Bool) (s : State) (k : CarrierId) : s.KeepsHop (s.fadeBoundary own k) := by
  have closed : s.KeepsHop (s.closeFade k) := by
    unfold State.closeFade
    dsimp only
    split
    · split
      · exact (s.setFtr_keepsHop k _).trans (State.setCombiner_keepsHop _ _ _)
      · exact s.setFtr_keepsHop k _
    · exact s.setFtr_keepsHop k _
  exact closed.trans (expireIf_keepsHop _ _ _ _)

theorem State.tickUnit_keepsHop (s : State) (u : UnitId) : s.KeepsHop (s.tickUnit u) := by
  unfold State.tickUnit
  dsimp only
  split
  · exact (s.setAde_keepsHop u _).trans (State.setAde_keepsHop _ u _)
  · exact s.setAde_keepsHop u _

theorem State.adaptBoundary_keepsHop (own : Bool) (s : State) (u : UnitId) : s.KeepsHop (s.adaptBoundary own u) := by
  have flagged : ∀ (x : State) (b c : Bool), x.KeepsHop (expireIf own c (.upDwell u) (expireIf own b (.dropHold u) x)) :=
    fun x b c => (expireIf_keepsHop own b _ x).trans (expireIf_keepsHop own c _ _)
  unfold State.adaptBoundary
  dsimp only
  split
  · exact ((s.tickUnit_keepsHop u).trans (flagged _ _ _)).trans (expire_keepsHop own _ _)
  · exact ((s.tickUnit_keepsHop u).trans (flagged _ _ _)).trans (State.decideUnit_keepsHop _ u)

/-- Ages change neither the kind of an entry nor what makes it due (R92). -/
theorem State.agePlan_keepsHop (s : State) : s.KeepsHop s.agePlan := by
  have count : ∀ p : Entry → Bool, (∀ e, p { e with age := min (e.age + 1) 15 } = p e) →
      s.agePlan.plc.plan.countP p = s.plc.plan.countP p := fun p same => by
    show (s.plc.plan.map _).countP p = _
    rw [List.countP_map]
    exact List.countP_congr fun e _ => by simp [same]
  refine State.KeepsTargets.hop ⟨⟨rfl, rfl, fun h u => ?_⟩, fun h => (count _ fun _ => rfl).le⟩ (fun _ => rfl) rfl rfl
  rw [count _ fun _ => rfl, count _ fun _ => rfl, count _ fun _ => rfl]
  exact h u

theorem State.planBoundary_keepsHop (own : Bool) (s : State) : s.KeepsHop (s.planBoundary own) :=
  (((s.applyDue_keepsHop _).trans (foldl_keepsHop (fun _ _ => expireIf_keepsHop _ _ _ _) ids _)).trans
    (State.agePlan_keepsHop _)).trans (foldl_keepsHop (fun _ _ => expire_keepsHop _ _ _) _ _)

theorem State.powerBoundary_keepsHop (own : Bool) (s : State) : s.KeepsHop (s.powerBoundary own) := by
  refine .trans ?_ (expireIf_keepsHop own _ _ _)
  exact .same rfl rfl rfl rfl rfl

theorem State.setCpm_keepsHop (s : State) (c : Cpm) : s.KeepsHop { s with cpm := c } := .same rfl rfl rfl rfl rfl

theorem State.laneBoundary_keepsHop (own : Bool) (s : State) : s.KeepsHop (s.laneBoundary own) := by
  have ticked : s.unbindBoundary.OnlyQueues { s.unbindBoundary with sched := s.unbindBoundary.sched.tickLanes } :=
    ⟨_, s.unbindBoundary.links, rfl⟩
  refine ((s.unbindBoundary_only.trans ticked).keepsHop.trans ?_).trans (State.setCpm_keepsHop _ _)
  exact foldl_keepsHop (fun s _ => expire_keepsHop own _ s) _ _

theorem State.poolBoundary_keepsHop (own : Bool) (s : State) : s.KeepsHop (s.poolBoundary own) :=
  (s.setCpm_keepsHop _).trans (s.poolBoundary_covered .refl .trans State.linkRequest_keepsHop (expireIf_keepsHop own))

theorem State.scheduleBoundary_keepsHop (s : State) : s.KeepsHop s.scheduleBoundary := by
  have renewed : ∀ x : State, x.KeepsHop x.renewCredits := fun _ => .same rfl rfl rfl rfl rfl
  exact ((s.applyDue_keepsHop _).trans (renewed _)).trans (State.refill_only _).keepsHop

/-- One part of the boundary event, whichever it is. -/
theorem State.boundaryPart_keepsHop (own : Bool) (began : Four LinkState) (s : State) (p : BoundaryPart) :
    s.KeepsHop (s.boundaryPart own began p) := by
  cases p with
  | clc k => exact s.clcBoundary_keepsHop own began k
  | recovery => exact s.recoveryBoundary_keepsHop own
  | fade => exact foldl_keepsHop (State.fadeBoundary_keepsHop own) ids s
  | adapt u => exact s.adaptBoundary_keepsHop own u
  | plan => exact s.planBoundary_keepsHop own
  | power => exact s.powerBoundary_keepsHop own
  | lanes => exact s.laneBoundary_keepsHop own
  | pool => exact s.poolBoundary_keepsHop own
  | schedule => exact s.scheduleBoundary_keepsHop

theorem State.boundaryParts_keepsHop (own : Bool) (began : Four LinkState) (ps : List BoundaryPart) (s : State) :
    s.KeepsHop (ps.foldl (State.boundaryPart own began) s) := foldl_keepsHop (State.boundaryPart_keepsHop own began) ps s

end Sys2Proof.Machine
end

section
/-! SUPPORT. What modem events, frames, messages and tenant commands keep of the switch plan, and what a step keeps (R79). -/

namespace Sys2Proof.Machine

/-! ## Modem events (R26, R34, R36, R39) -/

theorem State.lockIfReady_keepsTargets (s : State) (k : CarrierId) : s.KeepsTargets (s.lockIfReady k) := by
  unfold State.lockIfReady
  dsimp only
  split
  · exact s.changeLink_keepsTargets k _
  · exact .refl s

theorem State.unlockIfLost_keepsTargets (s : State) (k : CarrierId) : s.KeepsTargets (s.unlockIfLost k) := by
  unfold State.unlockIfLost
  dsimp only
  split
  · exact s.changeLink_keepsTargets k _
  · exact .refl s

theorem State.modemReady_keepsTargets (s : State) (k : CarrierId) : s.KeepsTargets (s.modemReady k) := by
  unfold State.modemReady
  dsimp only
  split
  · refine (s.command_keepsHop k (.setCombiner (s.ftr.get k).mode)).toKeepsTargets.trans ?_
    split
    · split
      · rename_i started
        exact ((State.setClc_keepsHop _ k (by intro; rfl)).trans (State.tryStart_keepsHop started)).toKeepsTargets
      · exact State.changeLink_keepsTargets _ k _
    · exact State.changeLink_keepsTargets _ k _
  · exact .refl s

theorem State.energy_keepsHop (s : State) (k : CarrierId) : s.KeepsHop (s.energy k) := by
  unfold State.energy
  split
  · split
    · exact s.startOrStay_keepsHop k true
    · split
      · exact s.startOrStay_keepsHop k false
      · exact .refl s
  · exact .refl s

theorem State.modemFault_keepsHop (s : State) (k : CarrierId) : s.KeepsHop (s.modemFault k) := by
  unfold State.modemFault
  dsimp only
  split
  · split
    · exact s.setClc_keepsHop k fun _ => rfl
    · exact .refl s
  · exact s.faultCarrier_keepsHop k

theorem State.handShortMean_keepsHop (s : State) (k : CarrierId) : s.KeepsHop (s.handShortMean k) := by
  unfold State.handShortMean
  split
  · exact s.setAde_keepsHop _ _
  · exact .refl s

theorem State.testEmergency_keepsHop (s : State) (k : CarrierId) : s.KeepsHop (s.testEmergency k) := by
  unfold State.testEmergency
  split
  · rename_i u _
    split
    · unfold State.emergency
      dsimp only
      split
      · exact .refl s
      · exact s.enterDropping_keepsHop u
    · exact .refl s
  · exact .refl s

theorem State.trackSample_keepsHop (s : State) (k : CarrierId) (x : SampleData) : s.KeepsHop (s.trackSample k x) := by
  have recorded := (s.setFtr_keepsHop k (·.record x)).trans (State.handShortMean_keepsHop _ k)
  unfold State.trackSample
  dsimp only
  split
  · exact (recorded.trans (State.setCombiner_keepsHop _ k _)).trans (State.testEmergency_keepsHop _ k)
  · exact recorded.trans (State.testEmergency_keepsHop _ k)

theorem Clc.sampleRuns_link (aligned : Bool) (c : Clc) : (c.sampleRuns aligned).link = c.link := by
  unfold Clc.sampleRuns
  split <;> rfl

theorem State.takeSample_keepsTargets (s : State) (k : CarrierId) (x : SampleData) : s.KeepsTargets (s.takeSample k x) := by
  unfold State.takeSample
  dsimp only
  split
  · have tracked := (s.trackSample_keepsHop k x).trans
      (State.setClc_keepsHop _ k (Clc.sampleRuns_link (sampleAligned x (s.ftr.get k).mode)))
    split
    · exact tracked.toKeepsTargets.trans (State.unlockIfLost_keepsTargets _ k)
    · exact tracked.toKeepsTargets.trans (State.lockIfReady_keepsTargets _ k)
  · exact .refl s

/-! ## Service messages (R8, R60, R68, R84–R91, R112) -/

theorem State.takeHello_keepsHop (s : State) (h : Hello) : s.KeepsHop (s.takeHello h) := by
  have compared : s.KeepsHop (s.compareRole h.role) := by
    unfold State.compareRole
    split <;> exact .of rfl rfl (.refl _) rfl rfl rfl
  have viewed : ∀ x : State, x.KeepsHop (x.viewHello h) := fun x => by
    unfold State.viewHello
    dsimp only
    split <;> exact .same rfl rfl rfl rfl rfl
  exact ((compared.trans (viewed _)).trans (State.setCpm_keepsHop _ _)).trans (State.settleCheck_keepsHop _)

/-- The unit's TX_PROFILE entry gives way to the one agreed (R79, R84). -/
theorem State.agreeProfile_keepsGroups (s : State) (k : CarrierId) (tag : Tag) (u : UnitId) (q : Nat) :
    s.KeepsGroups (s.agreeProfile k tag u q) := by
  have removed := s.removeEntries_keepsHop (Entry.isTxOf u)
  unfold State.agreeProfile
  dsimp only
  split
  · exact (removed.trans (State.offer_keepsHop _ k _)).toKeepsGroups
  · refine (removed.toKeepsGroups.trans ?_).trans (State.offer_keepsHop _ k _).toKeepsGroups
    obtain ⟨a, d, l, e, -⟩ := s.removeEntries_shape (Entry.isTxOf u)
    have emptied : (s.removeEntries (Entry.isTxOf u)).plc.plan.countP (Entry.isTxOf u) = 0 := by
      rw [e, List.countP_eq_zero]
      intro x mem
      simpa using (List.mem_filter.1 mem).2
    obtain ⟨l', added⟩ := (s.removeEntries (Entry.isTxOf u)).addEntry_plan
      ⟨tag, .txProfile u q, some (profileTarget s.htu.hsn (s.plc.txProfile.get u) q), .peer, .agreed, 0⟩
    rw [added]
    refine ⟨rfl, rfl, fun h => h.append rfl rfl (fun v own => ?_) ?_ ?_⟩
    · have same : u = v := by simpa [Entry.isTxOf] using own
      rw [← same]
      exact emptied
    · simp [Entry.isRxOf]
    · simp [State.entryTouches, Entry.link?]

theorem State.takeRxProposal_keepsGroups (s : State) (k : CarrierId) (tag : Tag) (c : CarrierId) (q : Nat) :
    s.KeepsGroups (s.takeRxProposal k tag c q) := by
  unfold State.takeRxProposal
  split
  · exact (s.offer_keepsHop k _).toKeepsGroups
  · split
    · exact (s.offer_keepsHop k _).toKeepsGroups
    · exact s.agreeProfile_keepsGroups k tag _ q

theorem State.setPlc_keepsHop (s : State) {f : Plc → Plc} (plan : ∀ p, (f p).plan = p.plan) : s.KeepsHop (s.setPlc f) :=
  .same rfl rfl (plan _) rfl rfl

theorem State.markDraining_keepsHop (s : State) (c : LinkChange) : s.KeepsHop (s.markDraining c) := by
  have marked : ∀ u, s.KeepsHop (s.setPlc fun p => { p with draining := p.draining.set u true }).formCapacity :=
    fun u => (s.setPlc_keepsHop (by intro; rfl)).trans (State.formCapacity_only _).keepsHop
  unfold State.markDraining
  split
  · split
    · split
      · exact .refl s
      · exact marked _
    · exact .refl s
  · split
    · exact marked _
    · exact .refl s
  · exact .refl s
  · exact .refl s

/-- A LINK proposal is agreed only where no LINK entry touches its units (R79, R85, R88). -/
theorem State.judgeLink_keepsGroups (s : State) (k : CarrierId) (tag : Tag) (c : LinkChange) :
    s.KeepsGroups (s.judgeLink k tag c) := by
  cases free : s.linkPending c with
  | true =>
    simp only [State.judgeLink, free, if_true]
    exact (s.offer_keepsHop k _).toKeepsGroups
  | false =>
    simp only [State.judgeLink, free, Bool.false_eq_true, if_false]
    split
    · exact (s.offer_keepsHop k _).toKeepsGroups
    · exact (State.addLink_keepsGroups rfl free).trans
        ((State.markDraining_keepsHop _ c).trans (State.offer_keepsHop _ k _)).toKeepsGroups

theorem State.takeLinkProposal_keepsGroups (s : State) (k : CarrierId) (tag : Tag) (c : LinkChange) :
    s.KeepsGroups (s.takeLinkProposal k tag c) := by
  unfold State.takeLinkProposal
  split
  · exact (s.offer_keepsHop k _).toKeepsGroups
  · unfold State.crossLink
    split
    · split
      · exact (s.offer_keepsHop k _).toKeepsGroups
      · exact (s.removeEntries_keepsHop _).toKeepsGroups.trans (State.judgeLink_keepsGroups _ k tag _)
    · exact s.judgeLink_keepsGroups k tag _

/-- An agreed entry stays in its group (R79, R90). -/
theorem State.turnAgreed_keepsGroups (s : State) (tag : Tag) (target : Hsn) (e : Entry) :
    s.KeepsGroups (s.turnAgreed tag target e) := by
  obtain ⟨l, flagged⟩ := (s.setPlc fun p =>
    { p with plan := p.plan.map fun x => if x.isProposed tag then x.agreedAt target else x }).planFlag_only [e]
  rw [State.turnAgreed, flagged]
  refine ⟨rfl, rfl, fun h u => ?_⟩
  have count : ∀ p : Entry → Bool, (∀ x : Entry, p (x.agreedAt target) = p x) →
      (s.plc.plan.map fun x => if x.isProposed tag then x.agreedAt target else x).countP p = s.plc.plan.countP p := fun p same => by
    rw [List.countP_map]
    exact List.countP_congr fun x _ => by
      rw [Function.comp_apply]
      split
      · rw [same]
      · rfl
  show (s.plc.plan.map _).countP _ ≤ 1 ∧ (s.plc.plan.map _).countP _ ≤ 1 ∧ (s.plc.plan.map _).countP (s.entryTouches u) ≤ 1
  rw [count _ fun _ => rfl, count _ fun _ => rfl, count _ fun _ => rfl]
  exact h u

theorem State.takeAgree_keepsGroups (s : State) (tag : Tag) (target : Hsn) : s.KeepsGroups (s.takeAgree tag target) := by
  unfold State.takeAgree
  split
  · exact .refl s
  · rename_i e _
    dsimp only
    have turned := s.turnAgreed_keepsGroups tag target e
    split
    · rename_i c _
      have marked := turned.trans (State.markDraining_keepsHop _ c).toKeepsGroups
      split
      · exact marked.trans (State.applyEntry_keepsHop _ _).toKeepsGroups
      · exact marked
    · exact turned
    · exact turned

theorem State.takeDecline_keepsHop (s : State) (tag : Tag) (reason : DeclineReason) : s.KeepsHop (s.takeDecline tag reason) := by
  unfold State.takeDecline
  split
  · exact .refl s
  · dsimp only
    split
    · exact s.removeEntries_keepsHop _
    · exact (s.removeEntries_keepsHop _).trans (State.backOffEntry_keepsHop _ _)

theorem State.takePowerAsk_keepsHop (s : State) (k : CarrierId) (tag : Tag) (c : CarrierId) (delta : Int) :
    s.KeepsHop (s.takePowerAsk k tag c delta) := by
  have changed : s.KeepsHop (s.changeLevel c (s.answerAsk c delta).2) := by
    unfold State.changeLevel
    split
    · exact .refl s
    · exact (s.setLevel_only c _).keepsHop
  exact changed.trans (State.offer_keepsHop _ k _)

theorem State.takePowerSet_keepsHop (s : State) (tag : Option Tag) (c : CarrierId) (level : Nat) (result : PowerResult) :
    s.KeepsHop (s.takePowerSet tag c level result) := by
  unfold State.takePowerSet
  dsimp only
  split
  · split <;> exact .same rfl rfl rfl rfl rfl
  · exact .same rfl rfl rfl rfl rfl

theorem State.serviceError_keepsHop (s : State) (k : CarrierId) : s.KeepsHop (s.serviceError k) := .same rfl rfl rfl rfl rfl

theorem State.handMessage_keepsGroups (s : State) (k : CarrierId) (m : Message) : s.KeepsGroups (s.handMessage k m) := by
  cases m with
  | hello h => exact (s.takeHello_keepsHop h).toKeepsGroups
  | proposeRx tag c q => exact s.takeRxProposal_keepsGroups k tag c q
  | proposeLink tag c => exact s.takeLinkProposal_keepsGroups k tag c
  | agree tag target => exact s.takeAgree_keepsGroups tag target
  | decline tag r => exact (s.takeDecline_keepsHop tag r).toKeepsGroups
  | powerAsk tag c d => exact (s.takePowerAsk_keepsHop k tag c d).toKeepsGroups
  | powerSet tag c n r => exact (s.takePowerSet_keepsHop tag c n r).toKeepsGroups

theorem State.takeMessage_keepsGroups (s : State) (k : CarrierId) (h : Hsn) (f : FrameNo) (m : Message) :
    s.KeepsGroups (s.takeMessage k h f m) := by
  unfold State.takeMessage
  split
  · exact (s.serviceError_keepsHop k).toKeepsGroups
  · exact s.handMessage_keepsGroups k m

/-! ## Frames received (R11, R75, R98, R99) -/

theorem State.headerRule_keepsHop (s : State) (u : UnitId) (q : Nat) : s.KeepsHop (s.headerRule u q) := by
  have completed : ∀ x : State, x.KeepsHop (if (x.ade.get u).state = .dropping ∧ q = 0 then x.completeDrop u else x) := fun x => by
    split
    · exact x.setAde_keepsHop u _
    · exact .refl x
  unfold State.headerRule
  dsimp only
  split
  · exact ((s.setAde_keepsHop u _).trans (State.removeEntries_keepsHop _ _)).trans (completed _)
  · exact (s.setAde_keepsHop u _).trans (completed _)

theorem State.takeProfileIndex_keepsHop (s : State) (k : CarrierId) (q : Nat) : s.KeepsHop (s.takeProfileIndex k q) := by
  unfold State.takeProfileIndex
  split
  · split
    · exact s.headerRule_keepsHop _ q
    · exact .refl s
  · exact .refl s

theorem State.takeAligned_keepsTargets (s : State) (k : CarrierId) (aligned : Bool) : s.KeepsTargets (s.takeAligned k aligned) := by
  have seen : s.KeepsTargets (s.setClc k (·.headerSeen aligned)) := (s.setClc_keepsHop k (by intro; rfl)).toKeepsTargets
  unfold State.takeAligned
  split
  · exact seen.trans (State.lockIfReady_keepsTargets _ k)
  · exact seen.trans (State.unlockIfLost_keepsTargets _ k)
  all_goals exact .refl s

theorem State.transmitDrop_keepsHop (s : State) (u : UnitId) : s.KeepsHop (s.transmitDrop u) := by
  unfold State.transmitDrop
  dsimp only
  split
  · exact s.removeEntries_keepsHop _
  · exact ((s.removeEntries_keepsHop _).trans (State.setPlc_keepsHop _ (by intro; rfl))).trans (State.formCapacity_only _).keepsHop

theorem State.takeDropOf_keepsHop (s : State) (k : CarrierId) (drop : Bool) : s.KeepsHop (s.takeDropOf k drop) := by
  unfold State.takeDropOf
  split
  · split
    · rename_i u _ _
      have seen : s.KeepsHop (s.setPlc fun p => { p with dropSeen := p.dropSeen.set u drop }) := s.setPlc_keepsHop fun _ => rfl
      unfold State.takeDropFlag
      dsimp only
      split
      · exact seen.trans (State.transmitDrop_keepsHop _ u)
      · exact seen
    · exact .refl s
  · exact .refl s

theorem State.takeSlot_keepsGroups (s : State) (k : CarrierId) (x : Header) : s.KeepsGroups (s.takeSlot k x) := by
  unfold State.takeSlot
  split
  · exact .refl s
  · split
    · exact s.takeMessage_keepsGroups k _ _ _
    · exact (s.serviceError_keepsHop k).toKeepsGroups

theorem State.takeHeader_keepsGroups (s : State) (k : CarrierId) (x : Header) : s.KeepsGroups (s.takeHeader k x) := by
  have noted : ∀ y : State, y.KeepsHop { y with htu := { y.htu with lastHeader := y.htu.lastHeader.set k (some (x.hsn, x.frame)) } } :=
    fun _ => .of rfl rfl (.refl _) rfl rfl rfl
  have indexed := (s.takeProfileIndex_keepsHop k x.profile).trans (noted _)
  exact ((indexed.toKeepsGroups.trans (State.takeAligned_keepsTargets _ k x.aligned).toKeepsGroups).trans
    (State.takeDropOf_keepsHop _ k x.drop).toKeepsGroups).trans (State.takeSlot_keepsGroups _ k x)

theorem State.takeFrame_keepsGroups (s : State) (k : CarrierId) (header : Option Header) (blocks : List RxBlock) :
    s.KeepsGroups (s.takeFrame k header blocks) := by
  have received : ∀ (x : State) (h : Option Header), x.KeepsGroups (x.takeRxFrame k h blocks) := fun x h => by
    unfold State.takeRxFrame
    split
    · exact (x.receiveFrame_only k h blocks).keepsHop.toKeepsGroups
    · exact .refl x
  unfold State.takeFrame
  split
  · unfold State.hearFrame
    split
    · exact (received s none).trans (State.takeAligned_keepsTargets _ k false).toKeepsGroups
    · split
      · exact ((s.serviceError_keepsHop k).toKeepsGroups.trans (received _ none)).trans
          (State.takeAligned_keepsTargets _ k false).toKeepsGroups
      · exact (received s _).trans (State.takeHeader_keepsGroups _ k _)
  · exact .refl s

/-! ## Frame requests (R151, R152) -/

theorem State.sendFrame_keepsHop (s : State) (k : CarrierId) (q : Nat) (h : Hsn) (f : FrameNo) (bs : List (Option Block)) :
    s.KeepsHop (s.sendFrame k q h f bs) := by
  have filled : s.KeepsHop (s.fillSlot k h f).2 := by
    unfold State.fillSlot
    split
    · exact .refl s
    · split
      · exact .same rfl rfl rfl rfl rfl
      · exact .refl s
  exact filled.trans (.same rfl rfl rfl rfl rfl)

theorem State.countFrame_keepsHop (s : State) (u : UnitId) (n traffic : Nat) : s.KeepsHop (s.countFrame u n traffic) :=
  .same rfl rfl rfl rfl rfl

theorem State.takeBlocks_keepsHop (s : State) (u : UnitId) (n : Nat) : s.KeepsHop (s.takeBlocks u n).2 := .same rfl rfl rfl rfl rfl

theorem State.serveSingle_keepsHop (s : State) (k : CarrierId) (u : UnitId) (h : Hsn) (f : FrameNo) :
    s.KeepsHop (s.serveSingle k u h f) := by
  unfold State.serveSingle
  dsimp only
  split
  · exact (s.takeBlocks_keepsHop u _).trans (State.sendFrame_keepsHop _ _ _ _ _ _)
  · exact (s.countFrame_keepsHop u _ 0).trans (State.sendFrame_keepsHop _ _ _ _ _ _)

theorem State.setRecord_keepsHop (s : State) (u : UnitId) (r : PairRecord) : s.KeepsHop (s.setRecord u r) := .same rfl rfl rfl rfl rfl

theorem State.assignRecord_keepsHop (s : State) (k : CarrierId) (u : UnitId) (h : Hsn) (f : FrameNo) :
    s.KeepsHop (s.assignRecord k u h f) :=
  (((s.takeBlocks_keepsHop u _).trans (State.setRecord_keepsHop _ u _)).trans (State.sendFrame_keepsHop _ _ _ _ _ _)).trans
    (State.closeIfTaken_only _ u).keepsHop

theorem State.servePair_keepsHop (s : State) (k : CarrierId) (u : UnitId) (h : Hsn) (f : FrameNo) :
    s.KeepsHop (s.servePair k u h f) := by
  have closed : s.KeepsHop (s.closeOther u h f) := by
    unfold State.closeOther
    split
    · split
      · exact .refl s
      · exact .same rfl rfl rfl rfl rfl
    · exact .refl s
  unfold State.servePair
  dsimp only
  refine closed.trans ?_
  split
  · split
    · exact ((State.setRecord_keepsHop _ u _).trans (State.sendFrame_keepsHop _ _ _ _ _ _)).trans
        (State.closeIfTaken_only _ u).keepsHop
    · exact State.assignRecord_keepsHop _ k u h f
  · split
    · exact (State.countFrame_keepsHop _ u _ 0).trans (State.sendFrame_keepsHop _ _ _ _ _ _)
    · exact State.sendFrame_keepsHop _ _ _ _ _ _

theorem State.answerRequest_keepsHop (s : State) (k : CarrierId) (h : Hsn) (f : FrameNo) : s.KeepsHop (s.answerRequest k h f) := by
  unfold State.answerRequest
  split
  · unfold State.serveLocked
    split
    · split
      · exact (s.servePair_keepsHop k _ h f).trans (State.refill_only _).keepsHop
      · exact (s.serveSingle_keepsHop k _ h f).trans (State.refill_only _).keepsHop
    · exact .refl s
  · exact s.sendFrame_keepsHop _ _ _ _ _
  all_goals exact .refl s

theorem State.takeRequest_keepsHop (s : State) (k : CarrierId) (h : Hsn) (f : FrameNo) : s.KeepsHop (s.takeRequest k h f) := by
  unfold State.takeRequest
  split
  · exact (s.applyDue_keepsHop h).trans (State.answerRequest_keepsHop _ k h f)
  · exact .refl s

/-! ## Tenant frames and commands (R186–R196) -/

theorem State.takeTenantFrame_keepsHop (s : State) (j : TenantId) (bytes : List Byte) : s.KeepsHop (s.takeTenantFrame j bytes) := by
  unfold State.takeTenantFrame
  dsimp only
  split
  · exact .refl s
  · split
    · exact (s.count_only j _).keepsHop
    · split
      · exact (s.arrival_only j _ _).keepsHop
      · exact s.setLink_keepsHop j _

theorem State.frameSent_keepsHop (s : State) (j : TenantId) : s.KeepsHop (s.frameSent j) := by
  unfold State.frameSent
  split
  · exact .refl s
  · dsimp only
    split <;> exact .same rfl rfl rfl rfl rfl

theorem State.resetTenant_keepsHop (s : State) (j : TenantId) : s.KeepsHop (s.resetTenant j) := by
  have cut : ∀ x : State, x.KeepsHop (x.cutEgress j) := fun x => by
    unfold State.cutEgress
    split
    · exact .same rfl rfl rfl rfl rfl
    · exact .refl x
  have assembler : ∀ x : State, x.KeepsHop { x with rxa := x.rxa.resetTenant j } := fun _ => .same rfl rfl rfl rfl rfl
  exact (((s.resetLanes_only j).keepsHop.trans (assembler _)).trans (cut _)).trans
    ((State.setCpm_keepsHop _ _).trans (State.setLink_keepsHop _ j _))

section
variable {s : State} {args : List Byte}

theorem noArgs_keepsHop {f : Answer} (h : s.KeepsHop f.state) : s.KeepsHop (noArgs args s f).state := by
  unfold noArgs
  split
  · exact h
  · exact .refl s

theorem oneArg_keepsHop {f : Byte → Answer} (h : ∀ b, s.KeepsHop (f b).state) : s.KeepsHop (oneArg args s f).state := by
  unfold oneArg
  split
  · exact h _
  · exact .refl s

theorem carrierArg_keepsHop {f : CarrierId → Answer} (h : ∀ k, s.KeepsHop (f k).state) : s.KeepsHop (carrierArg args s f).state :=
  oneArg_keepsHop fun b => by
    split
    · exact h _
    · exact .refl s

end

/-- A command keeps what its execution keeps; the queue of commands and the reply are the interface's (R188). -/
theorem State.commandStep_keepsHop {f : State → Answer} (h : ∀ x : State, x.KeepsHop (f x).state) (s : State) (j : TenantId)
    (code : Byte) (args : List Byte) : s.KeepsHop (s.commandStep j code args f) := by
  have executed : ∀ x : State, x.KeepsHop (x.executeHead j code args f) := fun x => by
    unfold State.executeHead
    dsimp only
    split
    · exact ((x.setLink_keepsHop j _).trans (h _)).trans (State.setLink_keepsHop _ j _)
    · exact .refl x
  unfold State.commandStep
  dsimp only
  split
  · split
    · exact executed s
    · exact (s.setLink_keepsHop j _).trans (executed _)
  · exact .refl s

theorem State.answerReadLane_keepsHop (j : TenantId) (args : List Byte) (s : State) : s.KeepsHop (s.answerReadLane j args).state :=
  oneArg_keepsHop fun _ => by
    split
    · exact .same rfl rfl rfl rfl rfl
    · exact .refl s

theorem State.answerWriteLane_keepsHop (j : TenantId) (args : List Byte) (s : State) : s.KeepsHop (s.answerWriteLane j args).state := by
  unfold State.answerWriteLane
  split
  · split
    · exact .refl s
    · split
      · exact .same rfl rfl rfl rfl rfl
      · exact .refl s
  · exact .refl s

theorem State.answerSetHold_keepsHop (j : TenantId) (args : List Byte) (s : State) : s.KeepsHop (s.answerSetHold j args).state :=
  oneArg_keepsHop fun b => by
    split
    · exact .refl s
    · show s.KeepsHop (s.setHold j b.toNat)
      unfold State.setHold
      split
      · exact s.setCpm_keepsHop _
      · exact .refl s

theorem State.answerSetMask_keepsHop (j : TenantId) (args : List Byte) (s : State) : s.KeepsHop (s.answerSetMask j args).state :=
  oneArg_keepsHop fun _ => by
    split
    · exact .refl s
    · exact s.setLink_keepsHop j _

theorem State.answerClearNotices_keepsHop (j : TenantId) (args : List Byte) (s : State) :
    s.KeepsHop (s.answerClearNotices j args).state :=
  oneArg_keepsHop fun _ => by
    split
    · exact .refl s
    · exact s.setLink_keepsHop j _

/-! ## Expiries and the boundary (R2) -/

theorem State.takeExpiry_keepsHop (s : State) (e : Expiry) : s.KeepsHop (s.takeExpiry e) := by
  unfold State.takeExpiry
  split
  · have taken : s.KeepsHop { s with due := s.due.erase e } := .same rfl rfl rfl rfl rfl
    exact taken.trans (runExpiry_keepsHop _ e)
  · exact .refl s

/-- A superframe begins behind what the last boundary left (R2; log 2). -/
theorem State.beginSuperframe_keepsTargets (s : State) : s.KeepsTargets s.beginSuperframe := by
  have emptied : s.KeepsTargets { s with due := [] } := .of rfl rfl (.refl _)
  exact (emptied.trans (foldl_keepsHop runExpiry_keepsHop s.due _).toKeepsTargets).trans (.of rfl rfl (.refl _))

theorem State.boundary_keepsTargets (s : State) (order : List BoundaryPart) (own : Bool) : s.KeepsTargets (s.boundary order own) :=
  s.beginSuperframe_keepsTargets.trans (State.boundaryParts_keepsHop own _ _ _).toKeepsTargets

/-! ## The step -/

/-- What reset leaves before start-up, a state with the same controllers, plan, scheduler, clock and levels leaves too (R197). -/
theorem State.beforeStart.of {s t : State} (before : s.beforeStart) (running : t.running = s.running) (clc : t.clc = s.clc)
    (plc : t.plc = s.plc) (sched : t.sched = s.sched) (htu : t.htu = s.htu) (level : t.pbu.level = s.pbu.level) : t.beforeStart :=
  fun off => by
    rw [clc, plc, sched, htu, level]
    exact before (running ▸ off)

theorem State.beforeStart_running {s : State} (running : s.running = true) : s.beforeStart := fun off => by simp [running] at off

/-- An event that keeps the plan's groups keeps the plan's law (R79). -/
theorem event_planLaw {s t : State} {f : State → State} (law : s.planLaw) (keeps : ∀ x : State, x.KeepsGroups (f x))
    (next : event s f = .next t) : t.planLaw := by
  obtain ⟨before, groups⟩ := law
  cases running : s.running with
  | true =>
    rw [event_running f running] at next
    cases next
    have kept := keeps { s with out := [] }
    exact ⟨State.beforeStart_running (kept.running.trans running), kept.groups groups⟩
  | false =>
    simp only [event, anyEvent, running, Bool.false_eq_true, if_false] at next
    cases next
    exact ⟨fun _ => before running, groups⟩

/-- An event taken in any phase that leaves controllers, plan, scheduler, clock and levels alone. -/
theorem anyEvent_planLaw {s t : State} {f : State → State} (law : s.planLaw)
    (same : ∀ x : State, (f x).running = x.running ∧ (f x).settings = x.settings ∧ (f x).clc = x.clc ∧ (f x).plc = x.plc
      ∧ (f x).sched = x.sched ∧ (f x).htu = x.htu ∧ (f x).pbu.level = x.pbu.level)
    (next : anyEvent s f = .next t) : t.planLaw := by
  obtain ⟨before, groups⟩ := law
  cases next
  obtain ⟨running, settings, clc, plc, sched, htu, level⟩ := same { s with out := [] }
  have kept : s.KeepsTargets (f { s with out := [] }).startTransmitters :=
    .of running settings (by rw [State.startTransmitters_plc, plc])
  exact ⟨before.of running clc plc sched htu level, kept.groups groups⟩

theorem State.linkGoesDown_same (s : State) (j : TenantId) : ∃ r l, s.linkGoesDown j = { s with rxa := r, links := l } := by
  unfold State.linkGoesDown
  split
  · obtain ⟨l, e⟩ := State.countAll_only { s.setLink j Tli.goDown with rxa := { s.rxa with egress := s.rxa.egress.set j [] } }
      ((s.rxa.egress.get j).map fun _ => (j, CounterName.linkDown))
    exact ⟨_, l, e⟩
  · exact ⟨_, _, rfl⟩

/-- Start-up enters nothing into the plan (R202). -/
theorem State.startUp_plan (s : State) (memory : Option (List Byte)) : (s.startUp memory).plc = s.plc
    ∧ (s.startUp memory).running = true := by
  have started : ∀ (x : State) (a : List CarrierId) (ks : List CarrierId),
      (ks.foldl (State.startCarrier a) x).plc = x.plc ∧ (ks.foldl (State.startCarrier a) x).running = x.running := fun x a ks => by
    refine foldl_covered (fun x y : State => y.plc = x.plc ∧ y.running = x.running) (fun _ => ⟨rfl, rfl⟩)
      (fun h k => ⟨k.1.trans h.1, k.2.trans h.2⟩) _ (fun x k => ?_) ks x
    unfold State.startCarrier
    split <;> exact ⟨rfl, rfl⟩
  unfold State.startUp
  dsimp only
  split
  · exact started _ _ ids
  · exact started _ _ ids

/-- Before start-up the plan is empty, and start-up leaves it so (R197, R202). -/
theorem provisioning_planLaw {s t : State} {memory : Option (List Byte)} (law : s.planLaw)
    (next : execProvisioningTakenIn memory s = .next t) : t.planLaw := by
  cases running : s.running with
  | true =>
    refine event_planLaw (f := fun x => x) law (fun x => .refl x) ?_
    simpa [execProvisioningTakenIn, anyEvent, event, running] using next
  | false =>
    simp only [execProvisioningTakenIn, anyEvent, running, Bool.false_eq_true, if_false] at next
    cases next
    obtain ⟨-, reset, -⟩ := law.1 running
    have empty : ∀ x : State, x.plc = .reset → x.running = true → x.planLaw := fun x plc up =>
      ⟨State.beforeStart_running up, fun u => by simp [plc, Plc.reset]⟩
    obtain ⟨plc, up⟩ := State.startUp_plan { s with out := [] } memory
    exact empty _ (plc.trans reset) up

/-- The command at the front of the queue keeps the plan's law, whichever it is (R79). -/
theorem exec_planLaw {s t : State} (i : Instr) (law : s.planLaw) (next : exec i s = .next t) : t.planLaw := by
  have hop : ∀ {f : State → State}, (∀ x : State, x.KeepsHop (f x)) → event s f = .next t → t.planLaw :=
    fun keeps => event_planLaw law fun x => (keeps x).toKeepsGroups
  have targets : ∀ {f : State → State}, (∀ x : State, x.KeepsTargets (f x)) → event s f = .next t → t.planLaw :=
    fun keeps => event_planLaw law fun x => (keeps x).toKeepsGroups
  have command : ∀ {j code args} {f : State → Answer}, (∀ x : State, x.KeepsHop (f x).state) →
      event s (fun s => s.commandStep j code args f) = .next t → t.planLaw :=
    fun keeps => hop fun x => State.commandStep_keepsHop keeps x _ _ _
  have read : ∀ {j code args} {f : State → Answer}, (∀ x : State, (f x).state = x) →
      event s (fun s => s.commandStep j code args f) = .next t → t.planLaw :=
    fun same => command fun x => by rw [same]; exact .refl x
  cases i with
  | partReset a b =>
    cases next
    exact ⟨fun _ => ⟨rfl, rfl, rfl, rfl, rfl⟩, fun u => ⟨Nat.zero_le _, Nat.zero_le _, Nat.zero_le _⟩⟩
  | provisioningTakenIn memory => exact provisioning_planLaw law next
  | superframeBoundary order own => exact targets (fun x => x.boundary_keepsTargets order own) next
  | modemReady k => exact targets (fun x => x.modemReady_keepsTargets k) next
  | sample k x => exact targets (fun s => s.takeSample_keepsTargets k x) next
  | frameRequest k h f => exact hop (fun x => x.takeRequest_keepsHop k h f) next
  | frameReceived k h bs => exact event_planLaw law (fun x => x.takeFrame_keepsGroups k h bs) next
  | hello k h f m => exact event_planLaw law (fun x => x.takeMessage_keepsGroups k _ _ _) next
  | proposeRxProfile k tag u q => exact event_planLaw law (fun x => x.takeMessage_keepsGroups k _ _ _) next
  | proposeLink k tag c => exact event_planLaw law (fun x => x.takeMessage_keepsGroups k _ _ _) next
  | agree k tag h => exact event_planLaw law (fun x => x.takeMessage_keepsGroups k _ _ _) next
  | decline k tag r => exact event_planLaw law (fun x => x.takeMessage_keepsGroups k _ _ _) next
  | powerAsk k tag c d => exact event_planLaw law (fun x => x.takeMessage_keepsGroups k _ _ _) next
  | powerSet k tag c n r => exact event_planLaw law (fun x => x.takeMessage_keepsGroups k _ _ _) next
  | energy k => exact hop (fun x => x.energy_keepsHop k) next
  | modemFault k => exact hop (fun x => x.modemFault_keepsHop k) next
  | wakingTimeout | acquireTimeout | holdoffEnd | faultRetryExpiry | hopRecoveryAttempt | modeDebounceExpiry | wakePenaltyExpiry
    | requestBackoffExpiry | powerAskExpiry | proposalTimeout | rxEntryPastTarget | dropHoldExpiry | upDwellReached
    | branchDwellExpiry | idleParkRunReached | revertDwellReached | stallLimit =>
    exact hop (fun x => x.takeExpiry_keepsHop _) next
  | supplyStateChange a b =>
    exact anyEvent_planLaw (f := fun x => x.supplyChange a b) law (fun _ => ⟨rfl, rfl, rfl, rfl, rfl, rfl, rfl⟩) next
  | linkUp j =>
    refine anyEvent_planLaw (f := fun x => x.linkComesUp j) law (fun x => ?_) next
    unfold State.linkComesUp
    split <;> exact ⟨rfl, rfl, rfl, rfl, rfl, rfl, rfl⟩
  | linkDown j =>
    refine anyEvent_planLaw (f := fun x => x.linkGoesDown j) law (fun x => ?_) next
    obtain ⟨r, l, e⟩ := x.linkGoesDown_same j
    rw [e]
    exact ⟨rfl, rfl, rfl, rfl, rfl, rfl, rfl⟩
  | tenantFrameReceived j bytes => exact hop (fun x => x.takeTenantFrame_keepsHop j bytes) next
  | tenantFrameSent j => exact hop (fun x => x.frameSent_keepsHop j) next
  | readCarrier j args => exact command (fun x => carrierArg_keepsHop fun _ => .refl x) next
  | readTrace j args => exact command (fun x => carrierArg_keepsHop fun _ => .refl x) next
  | readPlan j args => exact command (fun x => noArgs_keepsHop (.same rfl rfl rfl rfl rfl)) next
  | readCapacity j args => exact command (fun x => noArgs_keepsHop (.refl x)) next
  | readPower j args => exact command (fun x => noArgs_keepsHop (.refl x)) next
  | readProvision j args => exact command (fun x => noArgs_keepsHop (.refl x)) next
  | readLane j args => exact command (fun x => x.answerReadLane_keepsHop j args) next
  | writeLane j args => exact command (fun x => x.answerWriteLane_keepsHop j args) next
  | setHold j args => exact command (fun x => x.answerSetHold_keepsHop j args) next
  | readCounters j args => exact command (fun x => noArgs_keepsHop (.refl x)) next
  | clearCounters j args => exact command (fun x => noArgs_keepsHop (x.setLink_keepsHop j _)) next
  | setNoticeMask j args => exact command (fun x => x.answerSetMask_keepsHop j args) next
  | readNotices j args => exact command (fun x => noArgs_keepsHop (.refl x)) next
  | clearNotices j args => exact command (fun x => x.answerClearNotices_keepsHop j args) next
  | resetTenant j args => exact command (fun x => noArgs_keepsHop (x.resetTenant_keepsHop j)) next
  | unknownCommand j code args =>
    refine hop (f := fun x => if commandCodes.contains code then x else x.commandStep j code args State.answerUnknown) (fun x => ?_) next
    split
    · exact .refl x
    · exact State.commandStep_keepsHop (fun y => .refl y) x j code args

/-- Settles O57: entries enter where nothing of their group stands, by the step's event. -/
theorem stepKeepsPlanLaw : Obligations.StepKeepsPlanLaw := by
  unfold Obligations.StepKeepsPlanLaw
  intro s t law next
  unfold step at next
  split at next
  · cases next
    obtain ⟨before, groups⟩ := law
    unfold State.idle
    dsimp only
    split
    · rename_i ticks
      rw [Bool.and_eq_true] at ticks
      exact ⟨State.beforeStart_running ticks.1, groups⟩
    · exact ⟨before.of rfl rfl rfl rfl rfl rfl, groups⟩
  · rename_i c rest _
    have law' : State.planLaw { s with pending := rest } := ⟨law.1.of rfl rfl rfl rfl rfl rfl, law.2⟩
    exact exec_planLaw c law' next

end Sys2Proof.Machine
end

section
/-! Entries that leave the plan at an expiry of their own: unanswered (R71, R92, R103, R128), or past their target (R94). -/

namespace Sys2Proof.Machine

/-! ## Removals that clear no draining mark (R71, R93, R103) -/

/-- The context of a unit whose RX_PROFILE entry has left the plan (R71). -/
def Ade.released (a : Ade) : Ade := if a.state = .proposing then { a with state := .steady } else a

theorem Ade.released_state (a : Ade) : a.released.state = if a.state = .proposing then .steady else a.state := by
  unfold Ade.released
  split <;> rfl

theorem Ade.released_released (a : Ade) : a.released.released = a.released := by
  by_cases h : a.state = .proposing <;> simp [Ade.released, h]

/-- Only an AGREED LINK entry has set a draining mark, which its removal would clear (R93). -/
def Entry.unmarked (e : Entry) : Prop := e.link? = none ∨ e.state ≠ .agreed

theorem State.afterRemoval_unmarked {e : Entry} (unmarked : e.unmarked) (s : State) : ∃ a, s.afterRemoval e = { s with ade := a } ∧
    ∀ u, a.get u = if e.isRxOf u then (s.ade.get u).released else s.ade.get u := by
  cases change : e.change with
  | txProfile v q => exact ⟨s.ade, by simp [State.afterRemoval, change], fun u => by simp [Entry.isRxOf, change]⟩
  | rxProfile v q =>
    refine ⟨s.ade.modify v Ade.released, by rw [State.afterRemoval, change]; rfl, fun u => ?_⟩
    simp only [Entry.isRxOf, change, beq_iff_eq, Four.get_modify, eq_comm (a := u)]
  | link c =>
    have open' : e.state ≠ .agreed := by simpa [Entry.unmarked, Entry.link?, change] using unmarked
    exact ⟨s.ade, by simp [State.afterRemoval, change, open'], fun u => by simp [Entry.isRxOf, change]⟩

theorem State.afterRemovals_unmarked {es : List Entry} (unmarked : ∀ e ∈ es, e.unmarked) (s : State) :
    ∃ a, es.foldl State.afterRemoval s = { s with ade := a } ∧
      ∀ u, a.get u = if es.any (Entry.isRxOf u) then (s.ade.get u).released else s.ade.get u := by
  induction es generalizing s with
  | nil => exact ⟨s.ade, rfl, fun u => rfl⟩
  | cons e es ih =>
    obtain ⟨b, first, one⟩ := State.afterRemoval_unmarked (unmarked e (by simp)) s
    obtain ⟨a, rest, others⟩ := ih (fun x mem => unmarked x (by simp [mem])) { s with ade := b }
    refine ⟨a, by rw [List.foldl_cons, first, rest], fun u => ?_⟩
    rw [others u, List.any_cons]
    dsimp only
    rw [one u]
    cases e.isRxOf u <;> cases es.any (Entry.isRxOf u) <;> simp [Ade.released_released]

/-- Under the capacity law such a removal reaches the plan, contexts in PROPOSING, and PLAN of the entries removed (R71, R103, R140). -/
theorem State.removeEntries_unmarked {s : State} {p : Entry → Bool} (law : s.sched.capacity = s.capacityNow)
    (unmarked : ∀ e ∈ s.plc.plan, p e = true → e.unmarked) :
    ∃ a, s.removeEntries p = { s with
        ade := a, plc := { s.plc with plan := s.plc.plan.filter fun e => !p e }, links := (s.planFlag (s.plc.plan.filter p)).links } ∧
      ∀ u, a.get u = if s.plc.plan.any (fun e => p e && e.isRxOf u) then (s.ade.get u).released else s.ade.get u := by
  obtain ⟨a, removed, contexts⟩ := State.afterRemovals_unmarked (es := s.plc.plan.filter p)
    (fun e mem => unmarked e (List.mem_of_mem_filter mem) (List.mem_filter.1 mem).2) (s.eraseEntries p)
  have erased : s.eraseEntries p = { s with
      plc := { s.plc with plan := s.plc.plan.filter fun e => !p e }, links := (s.planFlag (s.plc.plan.filter p)).links } := by
    simp only [State.eraseEntries, State.planFlag]
    split <;> rfl
  refine ⟨a, ?_, fun u => ?_⟩
  · rw [State.removeEntries, removed, erased, State.formCapacity_same]
    exact law.trans (State.capacityNow_congr rfl (fun _ => rfl) rfl rfl rfl).symm
  · rw [contexts u, erased, List.any_filter]

/-- PLAN as the statements word it, on a part whose links have seen no other flag (R103, R192). -/
theorem State.raised_planFlag {s t : State} (settled : s.settled) (es : List Entry) (links : t.links = (s.planFlag es).links)
    (rxa : t.rxa = s.rxa) : s.Raised (if es.any Entry.capacityChanging then flagPlan else 0) t.startTransmitters := by
  have silent := (State.settled_iff s).1 settled
  intro j
  rw [State.startTransmitters_links, Four.get_build, rxa, links, State.planFlag]
  split
  · rw [State.raiseAll_links, Four.get_map]
    exact ((s.links.get j).notified_raise flagPlan).raisedOnly (by decide) (silent j)
  · rw [silent j]
    exact ⟨by simp, fun _ => ⟨rfl, rfl, rfl⟩, fun none' => absurd rfl none'⟩

/-! ## Unanswered at age 4 (R71, R92, R128) -/

/-- What an answer that stays out does to the pool's counts (R92, R128). -/
theorem State.backOffEntry_eq (s : State) (e : Entry) : ∃ b, s.backOffEntry e = { s with cpm := { s.cpm with backoff := b } } ∧
    (∀ c, e.change = .link c → ∀ u, s.unitOfChange e.change = some u → b = s.cpm.backoff.set u 16) ∧
    (∀ u q, e.change = .rxProfile u q → b = s.cpm.backoff) := by
  unfold State.backOffEntry
  split
  · rename_i c change
    rw [change]
    split
    · rename_i u unit
      refine ⟨s.cpm.backoff.set u 16, rfl, fun _ _ v same => ?_, nofun⟩
      rw [Option.some.inj (unit.symm.trans same)]
    · rename_i none'
      exact ⟨s.cpm.backoff, rfl, fun _ _ v same => absurd (none'.symm.trans same) nofun, nofun⟩
  · rename_i change
    rw [change]
    exact ⟨s.cpm.backoff, rfl, nofun, nofun⟩
  · rename_i change
    rw [change]
    exact ⟨s.cpm.backoff, rfl, nofun, fun _ _ _ => rfl⟩

theorem Entry.isProposed_iff {tag : Tag} {e : Entry} :
    e.isProposed tag = true ↔ e.tag = tag ∧ e.origin = .local ∧ e.state = .proposed := by
  simp [Entry.isProposed, and_assoc]

theorem Entry.isProposed_unmarked {tag : Tag} {e : Entry} (h : e.isProposed tag = true) : e.unmarked := by
  obtain ⟨-, -, proposed⟩ := Entry.isProposed_iff.1 h
  exact .inr (by simp [proposed])

theorem State.proposalTimeout_eq {s : State} {tag : Tag} {e : Entry} (entry : s.proposedEntry tag = some e) (aged : 4 ≤ e.age) :
    s.proposalTimeout tag = (s.removeEntries (Entry.isProposed tag)).backOffEntry e := by
  rw [State.proposalTimeout, entry]
  exact if_pos aged

/-! ## Past the target (R71, R75, R94) -/

/-- The receive profile taken from the latest good header (R75, R94). -/
def Ade.takeLatest (a : Ade) : Ade :=
  match a.lastProfile with
  | some q => a.setProfile q
  | none => a

/-- The context of a unit whose RX_PROFILE entry is past its target (R71, R94). -/
def Ade.pastTarget (a : Ade) : Ade := a.released.takeLatest

theorem Ade.pastTarget_profile (a : Ade) : a.pastTarget.rxProfile = a.lastProfile.getD a.rxProfile := by
  unfold Ade.pastTarget Ade.takeLatest Ade.setProfile Ade.released
  repeat' split
  all_goals simp_all

theorem Ade.pastTarget_upDwell (a : Ade) (changed : a.pastTarget.rxProfile ≠ a.rxProfile) : a.pastTarget.upDwell = 0 := by
  revert changed
  unfold Ade.pastTarget Ade.takeLatest Ade.setProfile Ade.released
  repeat' split
  all_goals simp_all

theorem Ade.pastTarget_state (a : Ade) : a.pastTarget.state = a.released.state := by
  unfold Ade.pastTarget Ade.takeLatest Ade.setProfile
  repeat' split
  all_goals rfl

/-- The part without unit `u`'s entries past their target (R94). -/
def State.withoutPast (s : State) (u : UnitId) : State :=
  { s with
    ade := s.ade.set u (s.ade.get u).pastTarget
    plc := { s.plc with plan := s.plc.plan.filter fun e => !e.isPastRx u s.htu.hsn } }

theorem State.withoutPast_context (s : State) (u : UnitId) : (s.withoutPast u).ade.get u = (s.ade.get u).pastTarget :=
  Four.get_set_self _ _ _

theorem Entry.isRxOf_of_isPastRx {u : UnitId} {now : Hsn} {e : Entry} (h : e.isPastRx u now = true) : e.isRxOf u = true := by
  unfold Entry.isPastRx at h
  rw [Bool.and_eq_true, Bool.and_eq_true] at h
  exact h.1.1

/-- The removal past the target raises no PLAN and reaches the unit's context alone (R71, R94, R103). -/
theorem State.rxPastTarget_eq {s : State} {u : UnitId} (law : s.sched.capacity = s.capacityNow)
    (past : s.plc.plan.any (Entry.isPastRx u s.htu.hsn) = true) :
    s.rxPastTarget u = s.withoutPast u := by
  obtain ⟨a, removed, contexts⟩ := State.removeEntries_unmarked (p := Entry.isPastRx u s.htu.hsn) law
    fun e _ h => .inl (Entry.isRxOf_link (Entry.isRxOf_of_isPastRx h))
  have silent : (s.plc.plan.filter (Entry.isPastRx u s.htu.hsn)).any Entry.capacityChanging = false := by
    rw [List.any_filter, List.any_eq_false]
    intro e _ h
    rw [Bool.and_eq_true] at h
    simp [Entry.capacityChanging, Entry.isRx_of_isRxOf (Entry.isRxOf_of_isPastRx h.1)] at h
  have unit : a = s.ade.modify u Ade.released := by
    refine Four.ext_get fun v => ?_
    rw [contexts v, Four.get_modify]
    by_cases same : v = u
    · have found : s.plc.plan.any (fun e => e.isPastRx u s.htu.hsn && e.isRxOf v) = true := by
        obtain ⟨e, mem, h⟩ := List.any_eq_true.1 past
        exact List.any_eq_true.2 ⟨e, mem, by simp [h, same, Entry.isRxOf_of_isPastRx h]⟩
      rw [if_pos found, if_pos same]
    · have absent : s.plc.plan.any (fun e => e.isPastRx u s.htu.hsn && e.isRxOf v) = false := by
        refine List.any_eq_false.2 fun e _ h => ?_
        rw [Bool.and_eq_true] at h
        simp [Entry.isRxOf_other (Entry.isRxOf_of_isPastRx h.1) same] at h
      rw [if_neg (by simp [absent]), if_neg same]
  rw [State.rxPastTarget, if_pos past, removed, unit, State.planFlag, if_neg (by simp [silent])]
  show ({ s with
    ade := (s.ade.modify u Ade.released).modify u Ade.takeLatest
    plc := { s.plc with plan := s.plc.plan.filter fun e => !e.isPastRx u s.htu.hsn } } : State) = _
  simp [Four.modify, Ade.pastTarget, State.withoutPast]

/-- Settles O18: a PROPOSED entry and an RX_PROFILE entry clear no draining mark, so C stands; what else each removal does goes by its
kind. -/
theorem planExpiriesRemoveEntries : Obligations.PlanExpiriesRemoveEntries := by
  refine ⟨?_, ?_⟩
  · rintro tag e s ⟨running, settled⟩ due entry aged ⟨-, law⟩
    have formed : (s.atExpiry (.proposal tag)).sched.capacity = (s.atExpiry (.proposal tag)).capacityNow :=
      law.trans (State.capacityNow_eq s).symm
    obtain ⟨a, removed, contexts⟩ := State.removeEntries_unmarked (p := Entry.isProposed tag) formed
      fun _ _ h => Entry.isProposed_unmarked h
    obtain ⟨b, backed, link, profile⟩ := ((s.atExpiry (.proposal tag)).removeEntries (Entry.isProposed tag)).backOffEntry_eq e
    have expiry := (State.proposalTimeout_eq (s := s.atExpiry (.proposal tag)) entry aged).trans backed
    have plain : ∀ x : Entry, ¬(x.tag = tag ∧ x.origin = .local ∧ x.state = .proposed) ↔ (!x.isProposed tag) = true := fun x => by
      rw [← Entry.isProposed_iff, Bool.not_eq_true', Bool.not_eq_true]
    refine completes_expiry rfl running due ?_
    rw [removed] at expiry link profile
    rw [show runExpiry (s.atExpiry (.proposal tag)) (.proposal tag) = (s.atExpiry (.proposal tag)).proposalTimeout tag from rfl, expiry]
    refine ⟨fun x mem => (plain x).2 (List.mem_filter.1 mem).2, fun x mem stays => List.mem_filter.2 ⟨mem, (plain x).1 stays⟩,
      fun u q change proposing => ?_, fun c change u unit => ?_, fun u q change => ?_, ?_, rfl⟩
    · have own : e.isRxOf u = true := Entry.isRxOf_iff.2 ⟨q, change⟩
      have found := List.find?_some entry
      have member := List.mem_of_find?_eq_some entry
      have removes : s.plc.plan.any (fun x => x.isProposed tag && x.isRxOf u) = true :=
        List.any_eq_true.2 ⟨e, member, by rw [own, Bool.and_true]; exact found⟩
      have context : a.get u = (s.ade.get u).released := (contexts u).trans (if_pos removes)
      show (a.get u).state = _
      rw [context, Ade.released_state, if_pos proposing]
    · show ({ s.cpm with backoff := b } : Cpm) = _
      rw [link c change u unit]
      rfl
    · show ({ s.cpm with backoff := b } : Cpm) = _
      rw [profile u q change]
      rfl
    · have raised := State.raised_planFlag (s := s.atExpiry (.proposal tag)) (State.settled_same settled rfl rfl)
        ((s.atExpiry (.proposal tag)).plc.plan.filter (Entry.isProposed tag)) (t := { s.atExpiry (.proposal tag) with
          ade := a, plc := { s.plc with plan := s.plc.plan.filter fun e => !e.isProposed tag }, cpm := { s.cpm with backoff := b }
          links := ((s.atExpiry (.proposal tag)).planFlag (s.plc.plan.filter (Entry.isProposed tag))).links }) rfl rfl
      rw [List.any_filter] at raised
      exact raised
  · rintro u s ⟨running, settled⟩ due past ⟨-, law⟩
    have formed : (s.atExpiry (.rxPast u)).sched.capacity = (s.atExpiry (.rxPast u)).capacityNow :=
      law.trans (State.capacityNow_eq s).symm
    have expiry := State.rxPastTarget_eq (s := s.atExpiry (.rxPast u)) formed past
    refine completes_expiry rfl running due ?_
    have still : ((s.atExpiry (.rxPast u)).withoutPast u).startTransmitters = (s.atExpiry (.rxPast u)).withoutPast u :=
      State.settled_same (s := s) settled rfl rfl
    have context : ((s.atExpiry (.rxPast u)).withoutPast u).ade.get u = (s.ade.get u).pastTarget := State.withoutPast_context _ u
    rw [show runExpiry (s.atExpiry (.rxPast u)) (.rxPast u) = (s.atExpiry (.rxPast u)).rxPastTarget u from rfl, expiry, still, context]
    refine ⟨rfl, ?_, ?_, ?_, ?_, rfl⟩
    · exact Ade.pastTarget_profile _
    · exact Ade.pastTarget_upDwell _
    · intro proposing
      rw [Ade.pastTarget_state, Ade.released_state, if_pos proposing]
    · intro other
      rw [Ade.pastTarget_state, Ade.released_state, if_neg other]

end Sys2Proof.Machine
end

section
/-! SUPPORT. The apply of a plan entry (R95–R97): which due entries are left, and what each kind does at the state that it meets. -/

namespace Sys2Proof.Machine

/-! ## The entries that are due (R95, R96) -/

theorem mem_insertByKey_iff {now : Hsn} {e x : Entry} {es : List Entry} : x ∈ insertByKey now e es ↔ x = e ∨ x ∈ es := by
  induction es with
  | nil => simp [insertByKey]
  | cons y ys ih =>
    unfold insertByKey
    split
    · simp
    · rw [List.mem_cons, ih, List.mem_cons]
      exact or_left_comm

theorem mem_planOrder_iff {now : Hsn} {x : Entry} {es : List Entry} : x ∈ planOrder now es ↔ x ∈ es := by
  have all : ∀ acc : List Entry, x ∈ es.foldl (fun acc e => insertByKey now e acc) acc ↔ x ∈ acc ∨ x ∈ es := by
    induction es with
    | nil => simp
    | cons e es ih =>
      intro acc
      rw [List.foldl_cons, ih, mem_insertByKey_iff, List.mem_cons, or_comm (a := x = e), or_assoc]
  simpa [planOrder] using all []

theorem State.eraseEntries_shape (s : State) (p : Entry → Bool) :
    ∃ l, s.eraseEntries p = { s with plc := { s.plc with plan := s.plc.plan.filter fun e => !p e }, links := l } :=
  (s.setPlc fun c => { c with plan := c.plan.filter fun e => !p e }).planFlag_only (s.plc.plan.filter p)

theorem State.eraseEntries_plan (s : State) (p : Entry → Bool) :
    (s.eraseEntries p).plc.plan = s.plc.plan.filter fun e => !p e := by
  obtain ⟨l, e⟩ := s.eraseEntries_shape p
  rw [e]

/-- An applied entry was due, and the apply makes none due (R97). -/
theorem State.applyEntry_dueCount {s : State} {e : Entry} {h : Hsn} (mem : e ∈ s.plc.plan) (due : e.dueAt h = true) :
    (s.applyEntry e).plc.plan.countP (Entry.dueAt h) < s.plc.plan.countP (Entry.dueAt h) := by
  have applied := ((s.eraseEntries (· == e)).applyChange_keepsHop e.change).targets h
  rw [State.eraseEntries_plan] at applied
  have split := List.countP_eq_countP_filter_add s.plc.plan (Entry.dueAt h) (· == e)
  have own : 0 < (s.plc.plan.filter (· == e)).countP (Entry.dueAt h) :=
    List.countP_pos_iff.2 ⟨e, List.mem_filter.2 ⟨mem, beq_self_eq_true e⟩, due⟩
  rw [split]
  exact Nat.lt_of_le_of_lt applied (by omega)

theorem State.findDue_none {s : State} {h : Hsn} :
    (planOrder s.htu.hsn s.plc.plan).find? (Entry.dueAt h) = none ↔ s.noneDue h := by
  simp [State.noneDue_iff, mem_planOrder_iff]

theorem State.applyUpTo_none {s : State} {h : Hsn} (none' : s.noneDue h) (n : Nat) : State.applyUpTo h n s = s := by
  cases n with
  | zero => rfl
  | succ n => rw [State.applyUpTo, State.findDue_none.2 none']

theorem State.applyUpTo_noneDue (h : Hsn) (n : Nat) (s : State) (few : s.plc.plan.countP (Entry.dueAt h) ≤ n) :
    (State.applyUpTo h n s).noneDue h := by
  induction n generalizing s with
  | zero => exact State.noneDue_iff.2 (Nat.le_zero.1 few)
  | succ n ih =>
    unfold State.applyUpTo
    split
    · rename_i e found
      have mem := mem_planOrder_iff.1 (List.mem_of_find?_eq_some found)
      have fewer := State.applyEntry_dueCount mem (List.find?_some found)
      exact ih _ (by omega)
    · rename_i nothing
      exact State.findDue_none.1 nothing

/-- Once the due entries have been applied, none is due (R95, R96). -/
theorem State.applyDue_noneDue (s : State) (h : Hsn) : (s.applyDue h).noneDue h :=
  State.applyUpTo_noneDue h _ s List.countP_le_length

/-- Entry `e` stands in the plan, and no other entry is due at superframe `h`. -/
structure State.DueAlone (s : State) (h : Hsn) (e : Entry) : Prop where
  mem : e ∈ s.plc.plan
  due : e.dueAt h = true
  sole : ∀ x ∈ s.plc.plan, x.dueAt h = true → x = e

theorem State.applyEntry_noneDue {s : State} {h : Hsn} {e : Entry} (alone : s.DueAlone h e) : (s.applyEntry e).noneDue h := by
  refine ((s.eraseEntries (· == e)).applyChange_keepsHop e.change).noneDue fun x mem rx agreed target => ?_
  rw [State.eraseEntries_plan, List.mem_filter] at mem
  have same := alone.sole x mem.1 (Entry.dueAt_iff.2 ⟨rx, agreed, target⟩)
  simp [same] at mem

/-- Where one entry alone is due, it alone is applied (R95, R96). -/
theorem State.applyDue_one {s : State} {h : Hsn} {e : Entry} (alone : s.DueAlone h e) : s.applyDue h = s.applyEntry e := by
  obtain ⟨x, found⟩ : ∃ x, (planOrder s.htu.hsn s.plc.plan).find? (Entry.dueAt h) = some x := by
    rw [← Option.isSome_iff_exists, List.find?_isSome]
    exact ⟨e, mem_planOrder_iff.2 alone.mem, alone.due⟩
  have same : x = e := alone.sole x (mem_planOrder_iff.1 (List.mem_of_find?_eq_some found)) (List.find?_some found)
  obtain ⟨n, length⟩ := Nat.exists_eq_succ_of_ne_zero (Nat.pos_iff_ne_zero.1 (List.length_pos_of_mem alone.mem))
  rw [State.applyDue, length, State.applyUpTo, found, same]
  exact State.applyUpTo_none (State.applyEntry_noneDue alone) n

/-! ## What the parts of an apply keep (R20, R93, R192) -/

/-- No flag is lowered, no draining mark is set, and no output is lost. -/
structure State.Carries (s t : State) : Prop where
  raised : ∀ j f, (s.links.get j).raised &&& f = f → (t.links.get j).raised &&& f = f
  draining : ∀ u, s.plc.draining.get u = false → t.plc.draining.get u = false
  out : ∀ o ∈ s.out, o ∈ t.out

section
variable {s t v : State}

theorem State.Carries.refl (s : State) : s.Carries s := ⟨fun _ _ h => h, fun _ h => h, fun _ h => h⟩

theorem State.Carries.trans (h : s.Carries t) (k : t.Carries v) : s.Carries v :=
  ⟨fun j f r => k.raised j f (h.raised j f r), fun u d => k.draining u (h.draining u d), fun o m => k.out o (h.out o m)⟩

theorem State.Carries.of (notifies : s.Notifies t) (draining : t.plc.draining = s.plc.draining) (out : ∀ o ∈ s.out, o ∈ t.out) :
    s.Carries t := ⟨fun _ _ r => notifies.keeps r, fun u d => by rwa [draining], out⟩

theorem State.Unwinds.carries (h : s.Unwinds t) (draining : ∀ u, s.plc.draining.get u = false → t.plc.draining.get u = false) :
    s.Carries t := ⟨fun _ _ r => h.notifies.keeps r, draining, fun o m => by rwa [h.out]⟩

theorem State.Requests.carries (h : s.Requests t) : s.Carries t := by
  refine h.unwinds.carries fun u d => ?_
  obtain ⟨_, _, _, _, e, -⟩ := h.only
  rwa [e]

end

theorem State.formCapacity_carries (s : State) : s.Carries s.formCapacity := by
  refine .of s.formCapacity_notifies ?_ fun o m => ?_
  all_goals
    obtain ⟨_, _, e⟩ := s.formCapacity_only
    rw [e]
  exact m

theorem State.removeEntries_carries (s : State) (p : Entry → Bool) : s.Carries (s.removeEntries p) := by
  have cleared : ∀ (x : State) (e : Entry), x.Carries (x.afterRemoval e) := fun x e => by
    have notifies := x.afterRemoval_notifies e
    unfold State.afterRemoval at notifies ⊢
    split
    · exact .of (.same rfl rfl) rfl fun _ h => h
    · exact .refl x
    · split
      · split
        · rename_i v _
          refine ⟨fun _ _ r => r, fun u d => ?_, fun _ h => h⟩
          show (x.plc.draining.set v false).get u = false
          rw [Four.get_set]
          split
          · rfl
          · exact d
        · exact .refl x
      · exact .refl x
  have erased : s.Carries (s.eraseEntries p) := by
    refine .of (s.eraseEntries_notifies p) ?_ fun o m => ?_
    all_goals
      obtain ⟨_, e⟩ := s.eraseEntries_shape p
      rw [e]
    exact m
  exact (erased.trans (foldl_covered _ .refl .trans _ cleared _ _)).trans (State.formCapacity_carries _)

theorem State.flush_carries (s : State) (u : UnitId) : s.Carries (s.flush u) := by
  refine (s.flush_unwinds u).carries fun v d => ?_
  obtain ⟨_, e⟩ := State.countAll_only { s with sched := (s.sched.flushUnit u).1 } (s.sched.flushUnit u).2
  rw [State.flush, e]
  exact d

theorem State.OnlySched.carries {s t : State} (h : s.OnlySched t) : s.Carries t := by
  obtain ⟨_, rfl⟩ := h
  exact ⟨fun _ _ r => r, fun _ d => d, fun _ m => m⟩

theorem State.loseUnit_carries (s : State) (u : UnitId) : s.Carries (s.loseUnit u) := by
  by_cases bare : (s.sched.staging.get u).held = 0
  · rw [State.loseUnit_bare bare]
    exact s.formCapacity_carries
  · rw [State.loseUnit_held bare]
    exact ((s.flush_carries u).trans (State.formCapacity_carries _)).trans (State.refill_only _).carries

theorem State.settleCheck_carries (s : State) : s.Carries s.settleCheck := by
  refine .of s.settleCheck_notifies ?_ fun o m => ?_
  all_goals
    obtain ⟨_, _, e⟩ := s.settleCheck_only
    rw [e]
  exact m

theorem State.goHopDown_carries (s : State) : s.Carries s.goHopDown := by
  refine s.goHopDown_unwinds.carries fun u _ => ?_
  obtain ⟨l, pool, -⟩ := s.planHopDown.viewHopDown.poolHopDown_shape
  obtain ⟨_, formed⟩ := s.planHopDown.viewHopDown.poolHopDown.formCapacity_shape
  rw [State.goHopDown, formed, pool]
  show (Four.of false).get u = false
  exact Four.get_of _ _

/-! ## A carrier that leaves its link state for another but LOCKED (R31, R38) -/

section
variable {w : State} (stays : w.htu.anchor = none → w.lowestLocked = none)
include stays

/-- The anchor is formed anew and the hop does not come up (R6, R7). -/
theorem State.reanchor_leaves : w.Unwinds w.reanchor ∧ w.Carries w.reanchor ∧ w.reanchor.scu = w.scu := by
  have anchored : ∀ a, w.Carries (w.anchoredAt a) := fun _ => ⟨fun _ _ r => r, fun _ d => d, fun _ m => m⟩
  cases old : w.htu.anchor with
  | none =>
    have same : w.reanchor = w.anchoredAt none := by
      rw [State.reanchor, old, stays old]
      rfl
    rw [same]
    exact ⟨w.anchoredAt_unwinds none, anchored none, rfl⟩
  | some a =>
    refine ⟨State.reanchor_unwinds old, ?_, State.reanchor_scu old⟩
    cases new : w.lowestLocked with
    | some b =>
      rw [State.reanchor_up old new]
      exact anchored _
    | none =>
      rw [State.reanchor_down old new]
      exact (anchored none).trans (State.goHopDown_carries _)

end

theorem State.releaseUnit_carries (w : State) (u : UnitId) : w.Carries (w.releaseUnit u) := by
  have held : w.Carries (w.releaseHold u) := by
    obtain ⟨_, _, _, e⟩ := (w.releaseHold_receives u).only
    exact (w.releaseHold_receives u).unwinds.carries fun v d => by rwa [e]
  have unlocked : ∀ x : State, x.Carries (x.unlockUnit u) := fun x => by
    unfold State.unlockUnit
    split
    · exact .refl x
    · have steadied : x.Carries (x.steadied u) := ⟨fun _ _ r => r, fun _ d => d, fun _ m => m⟩
      rw [State.unitUnlocked_eq]
      exact steadied.trans (State.removeEntries_carries _ _)
  have served : ∀ x : State, x.Carries (x.unlockService u) := fun x => by
    unfold State.unlockService
    split
    · exact x.formCapacity_carries
    · exact x.loseUnit_carries u
  exact ((held.trans (unlocked _)).trans (served _)).trans (State.closeIfTaken_only _ u).carries

/-- A loss of lock that is handed on leaves controllers, levels, outputs, and the service queue of every carrier that is not LOCKED
(R14, R31, R38, R83). -/
theorem State.afterUnlock_leaves {w : State} (k : CarrierId) (stays : w.htu.anchor = none → w.lowestLocked = none) :
    w.Unwinds (w.afterUnlock k) ∧ w.Carries (w.afterUnlock k) ∧
      ∀ j, w.isLocked j = false → ((w.afterUnlock k).scu.get j).queue = (w.scu.get j).queue := by
  cases unit : w.unitOf k with
  | none =>
    obtain ⟨unwinds, carries, scu⟩ := State.reanchor_leaves stays
    rw [State.afterUnlock, unit]
    exact ⟨unwinds, carries, fun j _ => by rw [scu]⟩
  | some u =>
    have released := (w.releaseUnit_released u).unwinds
    obtain ⟨⟨_, _, _, _, _, _, shape, -⟩, -⟩ := w.releaseUnit_released u
    have lowest : (w.releaseUnit u).lowestLocked = w.lowestLocked := State.lowestLocked_congr released.held.settings released.clc
    obtain ⟨unwinds, carries, scu⟩ := State.reanchor_leaves (w := w.releaseUnit u) (by rw [lowest, shape]; exact stays)
    obtain ⟨anchor, -, -⟩ := State.reanchor_anchors (s := w.releaseUnit u) (by rw [lowest, shape]; exact stays)
    have cleared : ∀ x : State, x.Carries (x.clearDwell k) := fun _ => ⟨fun _ _ r => r, fun _ d => d, fun _ m => m⟩
    have requests := State.afterHop_requests unit
    refine ⟨((released.trans unwinds).trans (State.clearDwell_unwinds _ k)).trans requests.unwinds,
      (((w.releaseUnit_carries u).trans carries).trans (cleared _)).trans requests.carries, fun j unlocked => ?_⟩
    have other : (w.afterHop k u).htu.anchor ≠ some j := by
      show (w.releaseUnit u).reanchor.htu.anchor ≠ some j
      rw [anchor, lowest]
      intro found
      have locked := List.find?_some found
      simp [unlocked] at locked
    rw [requests.queue j other, State.afterHop, State.clearDwell_scu, scu, shape]

/-- A change of link state that does not lead to LOCKED, where the anchor is the lowest LOCKED carrier (R6, R15, R31, R38). -/
theorem State.changeLink_leaves {s : State} {k : CarrierId} {f : Clc → Clc} (anchored : s.htu.anchor = s.lowestLocked)
    (apart : (f (s.clc.get k)).link ≠ .locked) :
    (s.changeLink k f).clc = s.clc.set k (f (s.clc.get k)) ∧ (s.changeLink k f).pbu.level = s.pbu.level ∧ s.Carries (s.changeLink k f) ∧
      ((f (s.clc.get k)).link.silent = true → ((s.changeLink k f).scu.get k).queue = []) := by
  have moved : s.Carries (s.moved k (f (s.clc.get k))) :=
    .of ((s.raiseAll_notifies flagCarrier).trans (.same rfl rfl)) rfl fun _ m => m
  have silenced : (f (s.clc.get k)).link.silent = true → ((s.moved k (f (s.clc.get k))).scu.get k).queue = [] := fun silent => by
    show ((if _ then s.quiet k else s.scu).get k).queue = []
    rw [if_pos silent]
    simp [State.quiet]
  by_cases was : s.link k = .locked
  · obtain ⟨unwinds, carries, queue⟩ := State.afterUnlock_leaves k (State.moved_stays anchored apart)
    obtain ⟨_, _, check⟩ := ((s.moved k (f (s.clc.get k))).afterUnlock k).settleCheck_only
    have unlocked : (s.moved k (f (s.clc.get k))).isLocked k = false := by simp [State.moved_isLocked, apart]
    rw [State.changeLink_fromLocked was]
    refine ⟨by rw [check]; exact unwinds.clc, by rw [check]; exact unwinds.level,
      (moved.trans carries).trans (State.settleCheck_carries _), fun silent => ?_⟩
    rw [check]
    exact (queue k unlocked).trans (silenced silent)
  · obtain ⟨_, _, check⟩ := (s.moved k (f (s.clc.get k))).settleCheck_only
    rw [State.changeLink_apart was apart]
    exact ⟨by rw [check]; rfl, by rw [check]; rfl, moved.trans (State.settleCheck_carries _), fun silent => by
      rw [check]; exact silenced silent⟩

end Sys2Proof.Machine
end

section
/-! SUPPORT. The effect of an applied entry, kind by kind, at the state that it meets (R34, R35, R97, R135, R137, R154). -/

namespace Sys2Proof.Machine

section
variable {s : State} {k : CarrierId}

theorem State.OnlyQueues.anchored {s t : State} (h : s.OnlyQueues t) (anchored : s.htu.anchor = s.lowestLocked) :
    t.htu.anchor = t.lowestLocked := (h.keepsHop.anchor anchored).1

theorem State.command_carries (s : State) (k : CarrierId) (c : ModemCommand) : s.Carries (s.command k c) :=
  ⟨fun _ _ r => r, fun _ d => d, fun _ m => List.mem_append_left _ m⟩

/-! ## PARK (R35) -/

theorem State.parkCarrier_applied (anchored : s.htu.anchor = s.lowestLocked) : s.Carries (s.parkCarrier k) ∧
    (s.link k = .acquire ∨ s.link k = .locked ∨ s.link k = .holdoff → (s.parkCarrier k).clc = s.clc.set k (s.clc.get k).park ∧
      ((s.parkCarrier k).scu.get k).queue = [] ∧ (s.link k ≠ .holdoff → .modem k .mute ∈ (s.parkCarrier k).out)) ∧
    (s.link k = .down ∨ s.link k = .waking ∨ s.link k = .parked → s.parkCarrier k = s) := by
  have muted : (s.command k .mute).Carries ((s.command k .mute).changeLink k Clc.park) ∧
      ((s.command k .mute).changeLink k Clc.park).clc = s.clc.set k (s.clc.get k).park ∧
      (((s.command k .mute).changeLink k Clc.park).scu.get k).queue = [] := by
    obtain ⟨clc, -, carries, queue⟩ := State.changeLink_leaves (s := s.command k .mute) (k := k) (f := Clc.park) anchored nofun
    exact ⟨carries, clc, queue rfl⟩
  obtain ⟨carries, clc, queue⟩ := muted
  have sent : .modem k .mute ∈ ((s.command k .mute).changeLink k Clc.park).out :=
    carries.out _ (List.mem_append_right _ (List.mem_singleton_self _))
  unfold State.parkCarrier
  cases link : s.link k with
  | locked => exact ⟨(s.command_carries k _).trans carries, fun _ => ⟨clc, queue, fun _ => sent⟩, nofun⟩
  | acquire => exact ⟨(s.command_carries k _).trans carries, fun _ => ⟨clc, queue, fun _ => sent⟩, nofun⟩
  | holdoff =>
    obtain ⟨clc, -, carries, queue⟩ := State.changeLink_leaves (s := s) (k := k) (f := Clc.park) anchored nofun
    exact ⟨carries, fun _ => ⟨clc, queue rfl, fun other => absurd rfl other⟩, nofun⟩
  | down => exact ⟨.refl s, nofun, fun _ => rfl⟩
  | waking => exact ⟨.refl s, nofun, fun _ => rfl⟩
  | parked => exact ⟨.refl s, nofun, fun _ => rfl⟩

theorem State.endDraining_carries (s : State) (k : CarrierId) (was : Bool) : s.Carries (s.endDraining k was) := by
  unfold State.endDraining
  split
  · split
    · rename_i u _ _
      have cleared : s.Carries (s.clearDraining u) := by
        refine ⟨fun _ _ r => r, fun v d => ?_, fun _ m => m⟩
        show (s.plc.draining.set u false).get v = false
        rw [Four.get_set]
        split
        · rfl
        · exact d
      exact cleared.trans (State.formCapacity_carries _)
    · exact .refl s
  · exact .refl s

/-- A mark that was set is cleared, and one that was not stays so (R93, R97). -/
theorem State.endDraining_clears {was : Bool} {u : UnitId} (unit : s.unitOf k = some u)
    (open' : was = false → s.plc.draining.get u = false) : (s.endDraining k was).plc.draining.get u = false := by
  unfold State.endDraining
  rw [unit]
  cases was with
  | false => exact open' rfl
  | true =>
    obtain ⟨_, _, e⟩ := (s.clearDraining u).formCapacity_only
    show (s.clearDraining u).formCapacity.plc.draining.get u = false
    rw [e]
    exact Four.get_set_self _ _ _

theorem State.loseUnitOf_carries (s : State) (k : CarrierId) : s.Carries (s.loseUnitOf k) := by
  unfold State.loseUnitOf
  split
  · exact s.loseUnit_carries _
  · exact .refl s

theorem State.flushDraining_carries (s : State) (k : CarrierId) : s.Carries (s.flushDraining k) := by
  unfold State.flushDraining
  split
  · exact s.loseUnitOf_carries k
  · exact .refl s

/-- The effect of PARK (R35, R97). -/
theorem State.applyPark (anchored : s.htu.anchor = s.lowestLocked) (k : CarrierId) :
    s.ParkApplied (s.applyChange (.link (.park k))) k ∧ s.Carries (s.applyChange (.link (.park k))) := by
  obtain ⟨x, l, flushed⟩ := s.flushDraining_only k
  obtain ⟨carries, leaves, stays⟩ := State.parkCarrier_applied (s := s.flushDraining k) (k := k)
    ((s.flushDraining_only k).anchored anchored)
  obtain ⟨a, p, x', l', ended⟩ := ((s.flushDraining k).parkCarrier k).endDraining_only k (s.drains k)
  have link : (s.flushDraining k).link k = s.link k := by rw [flushed]; rfl
  have applied : s.applyChange (.link (.park k)) = ((s.flushDraining k).parkCarrier k).endDraining k (s.drains k) := rfl
  refine ⟨⟨fun awake => ?_, fun off => ?_, fun u unit => ?_⟩, ?_⟩
  · obtain ⟨clc, queue, mute⟩ := leaves (link ▸ awake)
    have controller : (s.flushDraining k).clc = s.clc := by rw [flushed]
    rw [applied, ended]
    refine ⟨?_, queue, fun heard => mute (link ▸ heard)⟩
    show ((s.flushDraining k).parkCarrier k).clc.get k = _
    rw [clc, Four.get_set_self, controller]
    rfl
  · rw [applied, ended]
    show ((s.flushDraining k).parkCarrier k).link k = _
    rw [stays (link ▸ off), link]
  · have unit' : ((s.flushDraining k).parkCarrier k).unitOf k = some u :=
      (State.unitOf_congr (((s.flushDraining_only k).held.trans (State.parkCarrier_held _ k)).settings) k).trans unit
    refine State.endDraining_clears unit' fun was => ?_
    refine carries.draining u ?_
    have undrained : s.plc.draining.get u = false := by simpa [State.drains, unit, State.isDraining] using was
    rw [flushed]
    exact undrained
  · exact ((s.flushDraining_carries k).trans carries).trans (State.endDraining_carries _ k _)

/-! ## WAKE (R34) -/

/-- The effect of WAKE (R34, R97, R110). -/
theorem State.applyWake (anchored : s.htu.anchor = s.lowestLocked) (k : CarrierId) :
    s.WakeApplied (s.applyChange (.link (.wake k))) k ∧ s.Carries (s.applyChange (.link (.wake k))) := by
  have applied : s.applyChange (.link (.wake k)) = if s.link k = .parked then s.startOrStay k true else s := rfl
  by_cases parked : s.link k = .parked
  · rw [applied, if_pos parked]
    cases grant : s.startGrant with
    | none =>
      rw [State.startOrStay, State.tryStart_refused grant]
      exact ⟨⟨fun _ => ⟨none, grant ▸ s.startRule_startGrant, nofun, fun _ => parked⟩, fun other => absurd parked other⟩, .refl s⟩
    | some n =>
      let z := (({ s with pbu := { s.pbu with level := s.pbu.level.set k n } } : State).command k (.setLevel n)).command k .unmute
      have started : s.startOrStay k true = z.changeLink k (Clc.toAcquire true) := by
        rw [State.startOrStay, State.tryStart, grant]
        rfl
      have commanded : s.Carries z :=
        ⟨fun _ _ r => r, fun _ d => d, fun _ m => List.mem_append_left _ (List.mem_append_left _ m)⟩
      obtain ⟨clc, level, carries, -⟩ := State.changeLink_leaves (s := z) (k := k) (f := Clc.toAcquire true) anchored nofun
      rw [started]
      refine ⟨⟨fun _ => ⟨some n, grant ▸ s.startRule_startGrant, fun l same => ?_, nofun⟩, fun other => absurd parked other⟩,
        commanded.trans carries⟩
      cases same
      refine ⟨by rw [clc, Four.get_set_self]; rfl, by rw [level]; exact Four.get_set_self _ _ _, carries.out _ ?_, carries.out _ ?_⟩
      · exact List.mem_append_left _ (List.mem_append_right _ (List.mem_singleton_self _))
      · exact List.mem_append_right _ (List.mem_singleton_self _)
  · rw [applied, if_neg parked]
    exact ⟨⟨fun here => absurd here parked, fun _ => rfl⟩, .refl s⟩

/-! ## PROMOTE (R135, R154) -/

theorem State.inService_congr {s t : State} (settings : t.settings = s.settings) (joined : ∀ j, t.isJoined j = s.isJoined j)
    (acting : t.cpm.acting = s.cpm.acting) (draining : t.plc.draining = s.plc.draining) (u : UnitId) : t.inService u = s.inService u := by
  simp only [State.inService, State.unitJoined_congr settings joined, State.actsTraffic, State.isDraining, acting, draining]

/-- A unit that is not in service is left without a block (R154). -/
theorem State.loseUnit_bares {s : State} {u : UnitId} (out : s.inService u = false) : ((s.loseUnit u).sched.staging.get u).held = 0 := by
  by_cases bare : (s.sched.staging.get u).held = 0
  · rw [State.loseUnit_bare bare, State.formCapacity_sched]
    exact bare
  · obtain ⟨⟨held, -⟩, -⟩ := s.sched.flushUnit_empties u
    rw [State.loseUnit_held bare, State.refill_sched]
    have service : (s.flush u).formCapacity.inService u = false := by
      obtain ⟨_, _, formed⟩ := (s.flush u).formCapacity_only
      obtain ⟨_, counted⟩ := State.countAll_only { s with sched := (s.sched.flushUnit u).1 } (s.sched.flushUnit u).2
      refine (State.inService_congr ?_ (State.isJoined_congr ?_) ?_ ?_ u).trans out <;> rw [formed, State.flush, counted]
    have env : (s.flush u).formCapacity.env.inService.get u = false := by
      simp only [State.env, Four.get_build, service]
    have flushed : ((s.flush u).formCapacity.sched.staging.get u).held = 0 := by
      rw [State.formCapacity_sched, State.flush_sched]
      exact (Sched.formed_leaves u _ _).held held
    exact (Sched.refill_spares env (s.flush u).formCapacity.sched).toLeaves.held flushed

/-- Roles and record once PROMOTE `c` for `d` has passed its test (R135). -/
def State.promoted (s : State) (c d : CarrierId) : State := ((s.setActing c .traffic).setActing d .displaced).addSubstitution c d

theorem State.promoted_cpm (s : State) (c d : CarrierId) : (s.promoted c d).cpm = { s.cpm with
    acting := (s.cpm.acting.set c (some .traffic)).set d (some .displaced), subs := s.cpm.subs ++ [⟨c, d, 0⟩] } := rfl

theorem State.applyPromote_eq {c d : CarrierId} (test : s.cpm.acting.get c = some .standby ∧ s.cpm.acting.get d = some .traffic) :
    s.applyPromote c d = if s.serves d then (s.promoted c d).loseUnitOf d else (s.promoted c d).formCapacity := if_pos test

/-- The substitution that a PROMOTE adds is the last, and has not dwelt. -/
structure State.PromotedFresh (s t : State) (c d : CarrierId) : Prop where
  applied : s.PromoteApplied t c d
  fresh : s.cpm.acting.get c = some .standby ∧ s.cpm.acting.get d = some .traffic → ∀ r, t.cpm.subs.getLast? = some r → r.dwell = 0

/-- The effect of PROMOTE (R97, R135, R154). -/
theorem State.applyPromote_applied (s : State) (c d : CarrierId) :
    s.PromotedFresh (s.applyChange (.link (.promote c d))) c d ∧ s.Carries (s.applyChange (.link (.promote c d))) := by
  have applied : s.applyChange (.link (.promote c d)) = s.applyPromote c d := rfl
  rw [applied]
  by_cases test : s.cpm.acting.get c = some .standby ∧ s.cpm.acting.get d = some .traffic
  · rw [State.applyPromote_eq test]
    have queues : (s.promoted c d).OnlyQueues (if s.serves d then (s.promoted c d).loseUnitOf d else (s.promoted c d).formCapacity) := by
      split
      · exact State.loseUnitOf_only _ d
      · exact State.formCapacity_only _
    have cpm : (if s.serves d then (s.promoted c d).loseUnitOf d else (s.promoted c d).formCapacity).cpm = (s.promoted c d).cpm := by
      obtain ⟨_, _, e⟩ := queues
      rw [e]
    have fresh : ∀ r, (s.promoted c d).cpm.subs.getLast? = some r → r.dwell = 0 := fun r last => by
      rw [State.promoted_cpm, List.getLast?_concat] at last
      cases last
      rfl
    refine ⟨⟨⟨fun _ => ⟨by rw [cpm]; rfl, by rw [cpm]; simp [State.promoted_cpm, Cpm.substitutes], fun r last => ?_, fun unit served => ?_⟩,
      fun fails => absurd test fails⟩, fun _ r last => fresh r (cpm ▸ last)⟩, ?_⟩
    · exact (fresh r (cpm ▸ last)).le.trans (Nat.zero_le 1)
    · have serves : s.serves d = true := by simpa [State.serves, unit] using served
      have unit' : (s.promoted c d).unitOf d = some d := unit
      rw [if_pos serves, State.loseUnitOf, unit']
      refine State.loseUnit_bares ?_
      simp [State.inService, State.actsTraffic, State.promoted_cpm]
    · have promoted : s.Carries (s.promoted c d) :=
        ((show s.Carries (s.setActing c .traffic) from
          .of ((s.raiseAll_notifies flagCarrier).trans (.same rfl rfl)) rfl fun _ m => m).trans
        (show (s.setActing c .traffic).Carries ((s.setActing c .traffic).setActing d .displaced) from
          .of ((State.raiseAll_notifies _ flagCarrier).trans (.same rfl rfl)) rfl fun _ m => m)).trans
        ⟨fun _ _ r => r, fun _ d => d, fun _ m => m⟩
      refine promoted.trans ?_
      split
      · exact State.loseUnitOf_carries _ d
      · exact State.formCapacity_carries _
  · have same : s.applyPromote c d = s := if_neg test
    rw [same]
    exact ⟨⟨⟨fun holds => absurd holds test, fun _ => ⟨rfl, rfl⟩⟩, fun holds => absurd holds test⟩, .refl s⟩

/-! ## REVERT (R137) -/

theorem State.revertHolds_iff {c d : CarrierId} : s.revertHolds c d = true ↔
    (c, d) ∈ s.cpm.substitutes ∧ s.cpm.acting.get c = some .traffic ∧ s.cpm.acting.get d = some .displaced := by
  simp [State.revertHolds, Cpm.substitutes, Substitution.is, and_assoc]

theorem Cpm.substitutes_filter (subs : List Substitution) (c d : CarrierId) :
    (subs.filter fun r => !Substitution.is c d r).map (fun r => (r.s, r.t)) = (subs.map fun r => (r.s, r.t)).filter (· ≠ (c, d)) := by
  rw [List.filter_map]
  refine congrArg _ (List.filter_congr fun r _ => ?_)
  rw [Bool.eq_iff_iff]
  simp [Substitution.is]

theorem State.setActing_carries (s : State) (k : CarrierId) (r : ActingRole) : s.Carries (s.setActing k r) :=
  .of ((s.raiseAll_notifies flagCarrier).trans (.same rfl rfl)) rfl fun _ m => m

theorem State.applyRevert_carries (s : State) (c d : CarrierId) : s.Carries (s.applyRevert c d) := by
  unfold State.applyRevert
  dsimp only
  split
  · exact ((s.setActing_carries c .standby).trans (State.setActing_carries _ d .traffic)).trans ⟨fun _ _ r => r, fun _ d => d, fun _ m => m⟩
  · exact .refl s

/-- The effect of REVERT (R97, R137). -/
theorem State.applyRevert_applied (s : State) (c d : CarrierId) :
    s.RevertApplied (s.applyChange (.link (.revert c d))) c d ∧ s.Carries (s.applyChange (.link (.revert c d))) := by
  have applied : s.applyChange (.link (.revert c d)) =
      (((s.applyRevert c d).flushDraining c).endDraining c (s.drains c)).formCapacity := rfl
  obtain ⟨x, l, flushed⟩ := (s.applyRevert c d).flushDraining_only c
  obtain ⟨a, p, x', l', ended⟩ := ((s.applyRevert c d).flushDraining c).endDraining_only c (s.drains c)
  obtain ⟨x'', l'', formed⟩ := (((s.applyRevert c d).flushDraining c).endDraining c (s.drains c)).formCapacity_only
  have cpm : (s.applyChange (.link (.revert c d))).cpm = (s.applyRevert c d).cpm := by rw [applied, formed, ended, flushed]
  have plc : (s.applyRevert c d).plc = s.plc := by
    unfold State.applyRevert
    dsimp only
    split <;> rfl
  refine ⟨⟨fun holds => ?_, fun fails => ?_, fun u unit => ?_⟩, ?_⟩
  · rw [cpm, State.applyRevert, if_pos (State.revertHolds_iff.2 holds)]
    exact ⟨rfl, Cpm.substitutes_filter _ c d⟩
  · rw [cpm, State.applyRevert, if_neg (mt State.revertHolds_iff.1 fails)]
    exact ⟨rfl, rfl⟩
  · have unit' : ((s.applyRevert c d).flushDraining c).unitOf c = some u :=
      (State.unitOf_congr ((s.applyRevert_held c d).trans ((s.applyRevert c d).flushDraining_only c).held).settings c).trans unit
    rw [applied]
    refine (State.formCapacity_carries _).draining u (State.endDraining_clears unit' fun was => ?_)
    have undrained : s.plc.draining.get u = false := by simpa [State.drains, unit, State.isDraining] using was
    rw [flushed]
    show (s.applyRevert c d).plc.draining.get u = false
    rw [plc]
    exact undrained
  · rw [applied]
    exact (((s.applyRevert_carries c d).trans (State.flushDraining_carries _ c)).trans (State.endDraining_carries _ c _)).trans
      (State.formCapacity_carries _)

/-! ## TX_PROFILE (R80, R97, R140) -/

theorem State.applyTx_eq (s : State) (u : UnitId) (q : Nat) : ∃ l, s.applyChange (.txProfile u q) = { s with
    plc := { s.plc with txProfile := s.plc.txProfile.set u q }
    sched := s.sched.formed (s.applyChange (.txProfile u q)).capacityNow, links := l } := by
  obtain ⟨l, formed⟩ := (s.setPlc fun p => { p with txProfile := p.txProfile.set u q }).formCapacity_shape
  have now : (s.applyChange (.txProfile u q)).capacityNow = (s.setPlc fun p => { p with txProfile := p.txProfile.set u q }).capacityNow :=
    State.formCapacity_now _
  exact ⟨l, by rw [now]; exact formed⟩

theorem State.applyTx_carries (s : State) (u : UnitId) (q : Nat) : s.Carries (s.applyChange (.txProfile u q)) := by
  have set : s.Carries (s.setPlc fun p => { p with txProfile := p.txProfile.set u q }) := ⟨fun _ _ r => r, fun _ d => d, fun _ m => m⟩
  exact set.trans (State.formCapacity_carries _)

end

/-! ## Any kind (R97, R103) -/

/-- What the statements say of an applied change of a kind that changes capacity, each kind apart. -/
structure State.ChangeApplied (s t : State) (x : Change) : Prop where
  plan : ∀ j, (t.links.get j).raised &&& flagPlan = flagPlan
  draining : ∀ u, s.plc.draining.get u = false → t.plc.draining.get u = false
  tx : ∀ u q, x = .txProfile u q → t.plc.txProfile = s.plc.txProfile.set u q
  park : ∀ k, x = .link (.park k) → s.ParkApplied t k
  wake : ∀ k, x = .link (.wake k) → s.WakeApplied t k
  promote : ∀ c d, x = .link (.promote c d) → s.PromotedFresh t c d
  revert : ∀ c d, x = .link (.revert c d) → s.RevertApplied t c d

/-- A change applied where PLAN is raised has the effect of its kind (R97). -/
theorem State.applyChange_applied {s : State} (anchored : s.htu.anchor = s.lowestLocked) (c : Change)
    (flagged : ∀ j, (s.links.get j).raised &&& flagPlan = flagPlan) (changing : ∀ u q, c ≠ .rxProfile u q) :
    s.ChangeApplied (s.applyChange c) c := by
  have raised : s.Carries (s.applyChange c) → ∀ j, ((s.applyChange c).links.get j).raised &&& flagPlan = flagPlan :=
    fun carries j => carries.raised j _ (flagged j)
  cases c with
  | txProfile u q =>
    obtain ⟨_, applied⟩ := s.applyTx_eq u q
    refine ⟨raised (s.applyTx_carries u q), (s.applyTx_carries u q).draining, fun v p same => ?_, nofun, nofun, nofun, nofun⟩
    cases same
    rw [applied]
  | rxProfile u q => exact absurd rfl (changing u q)
  | link c =>
    cases c with
    | park k =>
      obtain ⟨applied, carries⟩ := State.applyPark anchored k
      refine ⟨raised carries, carries.draining, nofun, fun _ same => ?_, nofun, nofun, nofun⟩
      cases same
      exact applied
    | wake k =>
      obtain ⟨applied, carries⟩ := State.applyWake anchored k
      refine ⟨raised carries, carries.draining, nofun, nofun, fun _ same => ?_, nofun, nofun⟩
      cases same
      exact applied
    | promote c d =>
      obtain ⟨applied, carries⟩ := s.applyPromote_applied c d
      refine ⟨raised carries, carries.draining, nofun, nofun, nofun, fun _ _ same => ?_, nofun⟩
      cases same
      exact applied
    | revert c d =>
      obtain ⟨applied, carries⟩ := s.applyRevert_applied c d
      refine ⟨raised carries, carries.draining, nofun, nofun, nofun, nofun, fun _ _ same => ?_⟩
      cases same
      exact applied

/-- The apply of an entry that changes capacity raises PLAN and has the effect of its kind (R97, R103). -/
theorem State.applyEntry_applied {s : State} {e : Entry} (anchored : s.htu.anchor = s.lowestLocked) (mem : e ∈ s.plc.plan)
    (changing : e.isRx = false) : s.ChangeApplied (s.applyEntry e) e.change := by
  have flagged : ∀ j, ((s.eraseEntries (· == e)).links.get j).raised &&& flagPlan = flagPlan := fun j => by
    have any : (s.plc.plan.filter (· == e)).any Entry.capacityChanging = true :=
      List.any_eq_true.2 ⟨e, List.mem_filter.2 ⟨mem, beq_self_eq_true e⟩, by simp [Entry.capacityChanging, changing]⟩
    rw [State.eraseEntries, State.planFlag, if_pos any]
    exact State.raiseAll_raised _ _ j
  have notRx : ∀ u q, e.change ≠ .rxProfile u q := fun u q rx => by simp [Entry.isRx, rx] at changing
  obtain ⟨l, erased⟩ := s.eraseEntries_shape (· == e)
  have applied := State.applyChange_applied (s := s.eraseEntries (· == e)) (by rw [erased]; exact anchored) e.change flagged notRx
  rw [State.applyEntry]
  rw [erased] at applied ⊢
  obtain ⟨plan, draining, tx, park, wake, promote, revert⟩ := applied
  exact ⟨plan, draining, tx, park, wake, fun c d same => ⟨(promote c d same).applied, (promote c d same).fresh⟩, revert⟩

end Sys2Proof.Machine
end

section
/-! SUPPORT. What an applied entry leads to through the rest of its event, and what goes before it (R95, R96, R97): the parts of a boundary
that leave every expiry to a step of its own, and the answer of a request. -/

namespace Sys2Proof.Machine

/-! ## The relation -/

/-- The counts of a controller have moved, its link state not (R26, R27, R30, R32, R36). -/
structure Clc.Counted (a b : Clc) : Prop where
  link : b.link = a.link
  joined : a.joined = true → b.joined = true
  awake : a.link = .acquire ∨ a.link = .locked ∨ a.link = .holdoff → b.park = a.park
  parked : a.link = .parked → b = a

theorem Clc.Counted.refl (a : Clc) : a.Counted a := ⟨rfl, fun h => h, fun _ => rfl, fun _ => rfl⟩

theorem Clc.Counted.trans {a b c : Clc} (h : a.Counted b) (k : b.Counted c) : a.Counted c where
  link := k.link.trans h.link
  joined j := k.joined (h.joined j)
  awake l := (k.awake (h.link ▸ l)).trans (h.awake l)
  parked l := (k.parked (h.link.trans l)).trans (h.parked l)

/-- An entry with its age changed. -/
def Entry.aged (g : Nat → Nat) (e : Entry) : Entry := { e with age := g e.age }

/-- What the parts of an event that apply no entry keep of the effect of one, and of the states that it meets. `began` are the link states
in which controllers count; `n` is the number of boundaries that the pool has counted meanwhile. -/
structure State.Rides (began : Four LinkState) (n : Nat) (s t : State) : Prop extends State.KeepsHop s t where
  hsn : t.htu.hsn = s.htu.hsn
  clc : ∀ k, t.clc.get k = s.clc.get k ∨ (s.link k = began.get k ∧ (s.clc.get k).Counted (t.clc.get k))
  queue : s.htu.anchor = s.lowestLocked → ∀ k, s.isLocked k = false → (s.scu.get k).queue = [] → (t.scu.get k).queue = []
  level : t.pbu.level = s.pbu.level
  effective : t.pbu.effective = s.pbu.effective
  acting : t.cpm.acting = s.cpm.acting
  substitutes : t.cpm.substitutes = s.cpm.substitutes
  dwell : ∀ b, (∀ r, s.cpm.subs.getLast? = some r → r.dwell ≤ b) → ∀ r, t.cpm.subs.getLast? = some r → r.dwell ≤ b + n
  profile : t.plc.txProfile = s.plc.txProfile
  draining : t.plc.draining = s.plc.draining
  due : ∃ g, ∀ h, t.plc.plan.filter (Entry.dueAt h) = (s.plc.plan.filter (Entry.dueAt h)).map (Entry.aged g)
  held : ∀ d, s.cpm.acting.get d ≠ some .traffic → s.plc.draining.get d = false → (s.sched.staging.get d).held = 0 →
    (t.sched.staging.get d).held = 0
  raised : ∀ j f, (s.links.get j).raised &&& f = f → (t.links.get j).raised &&& f = f
  out : ∀ o ∈ s.out, o ∈ t.out

section
variable {began : Four LinkState} {n m : Nat} {s t v : State}

theorem Entry.aged_id (es : List Entry) : es.map (Entry.aged id) = es := List.map_id'' (fun _ => rfl) es

theorem State.Rides.link (h : s.Rides began n t) (k : CarrierId) : t.link k = s.link k := by
  obtain same | ⟨-, counted⟩ := h.clc k
  · rw [State.link, same, State.link]
  · exact counted.link

theorem State.Rides.locked (h : s.Rides began n t) (k : CarrierId) : t.isLocked k = s.isLocked k := by
  rw [State.isLocked, h.link, State.isLocked]

theorem State.Rides.trans (h : s.Rides began n t) (k : t.Rides began m v) : s.Rides began (n + m) v where
  toKeepsHop := h.toKeepsHop.trans k.toKeepsHop
  hsn := k.hsn.trans h.hsn
  clc j := by
    obtain same | ⟨_, counted⟩ := h.clc j
    · rw [← same, ← h.link]
      exact k.clc j
    · obtain same' | ⟨_, counted'⟩ := k.clc j
      · rw [same']
        exact .inr ⟨by assumption, counted⟩
      · exact .inr ⟨by assumption, counted.trans counted'⟩
  queue a j unlocked empty := k.queue (h.anchor a).1 j ((h.locked j).trans unlocked) (h.queue a j unlocked empty)
  level := k.level.trans h.level
  effective := k.effective.trans h.effective
  acting := k.acting.trans h.acting
  substitutes := k.substitutes.trans h.substitutes
  dwell b young r last := (k.dwell (b + n) (h.dwell b young) r last).trans (Nat.le_of_eq (Nat.add_assoc b n m))
  profile := k.profile.trans h.profile
  draining := k.draining.trans h.draining
  due := by
    obtain ⟨g, one⟩ := h.due
    obtain ⟨g', two⟩ := k.due
    exact ⟨g' ∘ g, fun x => by rw [two, one, List.map_map]; rfl⟩
  held d idle calm bare := k.held d (by rw [h.acting]; exact idle) (by rw [h.draining]; exact calm) (h.held d idle calm bare)
  raised j f r := k.raised j f (h.raised j f r)
  out o mem := k.out o (h.out o mem)

/-- A part that leaves plan, controllers, service queues, levels, roles and substitutions alone. -/
theorem State.Rides.of (hop : s.KeepsHop t) (hsn : t.htu.hsn = s.htu.hsn) (plc : t.plc = s.plc) (clc : t.clc = s.clc)
    (scu : t.scu = s.scu) (level : t.pbu.level = s.pbu.level) (effective : t.pbu.effective = s.pbu.effective)
    (acting : t.cpm.acting = s.cpm.acting) (subs : t.cpm.subs = s.cpm.subs)
    (held : ∀ d, s.inService d = false → (s.sched.staging.get d).held = 0 → (t.sched.staging.get d).held = 0)
    (raised : ∀ j f, (s.links.get j).raised &&& f = f → (t.links.get j).raised &&& f = f) (out : ∀ o ∈ s.out, o ∈ t.out) :
    s.Rides began 0 t where
  toKeepsHop := hop
  hsn := hsn
  clc _ := .inl (by rw [clc])
  queue _ _ _ empty := by rwa [scu]
  level := level
  effective := effective
  acting := acting
  substitutes := by rw [Cpm.substitutes, subs, Cpm.substitutes]
  dwell b young r last := young r (subs ▸ last)
  profile := by rw [plc]
  draining := by rw [plc]
  due := ⟨id, fun h => by rw [plc, Entry.aged_id]⟩
  held d idle _ bare := held d (by simp [State.inService, State.actsTraffic, idle]) bare
  raised := raised
  out := out

theorem State.Rides.refl (s : State) : s.Rides began 0 s :=
  .of (.refl s) rfl rfl rfl rfl rfl rfl rfl rfl (fun _ _ h => h) (fun _ _ h => h) fun _ h => h

theorem State.OnlyQueues.rides (h : s.OnlyQueues t)
    (held : ∀ d, s.inService d = false → (s.sched.staging.get d).held = 0 → (t.sched.staging.get d).held = 0)
    (raised : ∀ j f, (s.links.get j).raised &&& f = f → (t.links.get j).raised &&& f = f) : s.Rides began 0 t := by
  have hop := h.keepsHop
  obtain ⟨_, _, rfl⟩ := h
  exact .of hop rfl rfl rfl rfl rfl rfl rfl rfl held raised fun _ h => h

theorem State.refill_rides (s : State) : s.Rides began 0 s.refill :=
  s.refill_only.queues.rides (fun d out bare =>
    (Sched.refill_spares (env := s.env) (by simp only [State.env, Four.get_build, out]) s.sched).held bare) fun _ _ h => h

theorem State.formCapacity_rides (s : State) : s.Rides began 0 s.formCapacity :=
  s.formCapacity_only.rides (fun d _ h => by rw [State.formCapacity_sched]; exact (s.sched.formed_leaves d _).held h)
    s.formCapacity_carries.raised

theorem foldl_rides {α : Type} {f : State → α → State} (h : ∀ (s : State) x, s.Rides began 0 (f s x)) (xs : List α) (s : State) :
    s.Rides began 0 (xs.foldl f s) := foldl_covered (State.Rides began 0) .refl .trans f h xs s

/-! ## Expiries left to steps of their own, contexts and trackers (log 2) -/

theorem expire_rides (e : Expiry) (s : State) : s.Rides began 0 (expire true e s) :=
  .of (expire_keepsHop true e s) rfl rfl rfl rfl rfl rfl rfl rfl (fun _ _ h => h) (fun _ _ h => h) fun _ h => h

theorem expireIf_rides (c : Bool) (e : Expiry) (s : State) : s.Rides began 0 (expireIf true c e s) := by
  unfold expireIf
  split
  · exact expire_rides e s
  · exact .refl s

theorem State.setAde_rides (s : State) (u : UnitId) (f : Ade → Ade) : s.Rides began 0 (s.setAde u f) :=
  .of (s.setAde_keepsHop u f) rfl rfl rfl rfl rfl rfl rfl rfl (fun _ _ h => h) (fun _ _ h => h) fun _ h => h

theorem State.fadeBoundary_rides (s : State) (k : CarrierId) : s.Rides began 0 (s.fadeBoundary true k) := by
  have combined : ∀ (x : State) (m : Combiner), x.Rides began 0 (x.setCombiner k m) := fun x m => by
    have hop := x.setCombiner_keepsHop k m
    unfold State.setCombiner at hop ⊢
    dsimp only at hop ⊢
    split
    · rename_i down
      rw [if_pos down] at hop
      exact .of hop rfl rfl rfl rfl rfl rfl rfl rfl (fun _ _ h => h) (fun _ _ h => h) fun _ h => h
    · rename_i powered
      rw [if_neg powered] at hop
      exact .of hop rfl rfl rfl rfl rfl rfl rfl rfl (fun _ _ h => h) (fun _ _ h => h) fun _ h => List.mem_append_left _ h
  have closed : s.Rides began 0 (s.setFtr k Ftr.close) :=
    .of (s.setFtr_keepsHop k _) rfl rfl rfl rfl rfl rfl rfl rfl (fun _ _ h => h) (fun _ _ h => h) fun _ h => h
  have chosen : s.Rides began 0 (s.closeFade k) := by
    unfold State.closeFade
    dsimp only
    split
    · split
      · exact closed.trans (combined _ _)
      · exact closed
    · exact closed
  exact chosen.trans (expireIf_rides _ _ _)

/-! ## Controllers, hop recovery, power (R27, R30, R32, R37, R107) -/

/-- A controller counts in the link state in which the boundary began. -/
theorem State.setClc_rides {s : State} {k : CarrierId} {f : Clc → Clc} (link : ∀ c, (f c).link = c.link) (began' : s.link k = began.get k)
    (counted : (s.clc.get k).Counted (f (s.clc.get k))) : s.Rides began 0 (s.setClc k f) where
  toKeepsHop := s.setClc_keepsHop k link
  hsn := rfl
  clc j := by
    by_cases own : j = k
    · subst own
      exact .inr ⟨began', by rw [State.setClc_clc, Four.get_modify_self]; exact counted⟩
    · exact .inl (by rw [State.setClc_clc, Four.get_modify_of_ne _ _ own])
  queue _ _ _ empty := empty
  level := rfl
  effective := rfl
  acting := rfl
  substitutes := rfl
  dwell _ young := young
  profile := rfl
  draining := rfl
  due := ⟨id, fun h => (Entry.aged_id _).symm⟩
  held _ _ _ h := h
  raised _ _ h := h
  out _ h := h

theorem State.clcBoundary_rides (s : State) (k : CarrierId) : s.Rides began 0 (s.clcBoundary true began k) := by
  unfold State.clcBoundary
  dsimp only
  split
  · exact .refl s
  · rename_i still
    have began' : s.link k = began.get k := not_not.1 still
    split <;> rename_i link
    · split
      · exact .refl s
      · have joins : s.Rides began 0 (s.setClc k fun c => { c with joined := true }) :=
          State.setClc_rides (by intro; rfl) began' ⟨rfl, fun _ => rfl, fun _ => rfl, fun parked => by cases link.symm.trans parked⟩
        exact joins.trans (State.formCapacity_rides _)
    · have counts : s.Rides began 0 (s.setClc k fun c => { c with acquireCount := min (c.acquireCount + 1) acquireLimit }) :=
        State.setClc_rides (by intro; rfl) began' ⟨rfl, fun h => h, fun _ => rfl, fun parked => by cases link.symm.trans parked⟩
      exact counts.trans (expireIf_rides _ _ _)
    · have counts : s.Rides began 0 (s.setClc k fun c => { c with holdoffCount := min (c.holdoffCount + 1) holdoffLimit }) :=
        State.setClc_rides (by intro; rfl) began' ⟨rfl, fun h => h, fun _ => rfl, fun parked => by cases link.symm.trans parked⟩
      exact counts.trans (expireIf_rides _ _ _)
    · have counts : s.Rides began 0 (s.setClc k fun c => { c with wakingCount := min (c.wakingCount + 1) wakingLimit }) :=
        State.setClc_rides (by intro; rfl) began' ⟨rfl, fun h => h, fun awake => by simp [link] at awake,
          fun parked => by cases link.symm.trans parked⟩
      exact counts.trans (expireIf_rides _ _ _)
    · split
      · have counts : s.Rides began 0 (s.setClc k fun c => { c with retryCount := min (c.retryCount + 1) retryLimit }) :=
          State.setClc_rides (by intro; rfl) began' ⟨rfl, fun h => h, fun awake => by simp [link] at awake,
            fun parked => by cases link.symm.trans parked⟩
        exact counts.trans (expireIf_rides _ _ _)
      · exact .refl s
    · exact .refl s

theorem State.recoveryBoundary_rides (s : State) : s.Rides began 0 (s.recoveryBoundary true) := by
  have counted : ∀ r, s.Rides began 0 { s with htu := { s.htu with recovery := r } } := fun r =>
    .of (.of rfl rfl (.refl _) rfl rfl rfl) rfl rfl rfl rfl rfl rfl rfl rfl (fun _ _ h => h) (fun _ _ h => h) fun _ h => h
  unfold State.recoveryBoundary
  split
  · exact .refl s
  · exact (counted _).trans (expireIf_rides _ _ _)

theorem State.powerBoundary_rides (s : State) : s.Rides began 0 (s.powerBoundary true) := by
  have tick : s.pbu.tick.level = s.pbu.level ∧ s.pbu.tick.effective = s.pbu.effective := by
    unfold Pbu.tick
    split <;> exact ⟨rfl, rfl⟩
  have ticked : s.Rides began 0 { s with pbu := s.pbu.tick } :=
    .of (.same rfl rfl rfl rfl rfl) rfl rfl rfl rfl tick.1 tick.2 rfl rfl (fun _ _ h => h) (fun _ _ h => h) fun _ h => h
  exact ticked.trans (expireIf_rides _ _ _)

/-! ## Proposals, asks and requests (R67, R71, R83) -/

theorem State.offered_queue {s : State} {a k : CarrierId} (other : a ≠ k) (m : Message) :
    ((s.offered a m).get k).queue = (s.scu.get k).queue := by
  rw [State.offered, Four.get_modify_of_ne _ _ other.symm]

theorem State.lowestLocked_isLocked {s : State} {a : CarrierId} (lowest : s.lowestLocked = some a) : s.isLocked a = true := by
  have found := List.find?_some lowest
  simp only [Bool.and_eq_true] at found
  exact found.2

/-- An entry offered to the peer in place of RX_PROFILE entries: it is PROPOSED, and its message joins the queue of a LOCKED carrier (R14,
R71, R81, R83). -/
theorem State.Rides.proposes (hop : s.KeepsHop t) {a : CarrierId} {msg : Message} {e : Entry} {p : Entry → Bool} {g : Tag}
    (locked : s.htu.anchor = s.lowestLocked → s.isLocked a = true) (rx : ∀ x, p x = true → x.isRx = true) (proposed : e.state = .proposed)
    (scu : t.scu = s.offered a msg)
    (plc : t.plc = { s.plc with plan := (s.plc.plan.filter fun x => !p x) ++ [e], nextTag := g }) (hsn : t.htu.hsn = s.htu.hsn)
    (clc : t.clc = s.clc) (pbu : t.pbu = s.pbu) (cpm : t.cpm = s.cpm)
    (staging : ∀ d, (s.sched.staging.get d).held = 0 → (t.sched.staging.get d).held = 0)
    (notifies : s.Notifies t) (out : t.out = s.out) : s.Rides began 0 t where
  toKeepsHop := hop
  hsn := hsn
  clc _ := .inl (by rw [clc])
  queue anchored k unlocked empty := by
    have other : a ≠ k := fun same => by simp [← same, locked anchored] at unlocked
    rw [scu]
    exact (State.offered_queue other msg).trans empty
  level := by rw [pbu]
  effective := by rw [pbu]
  acting := by rw [cpm]
  substitutes := by rw [cpm]
  dwell _ young := by rwa [cpm]
  profile := by rw [plc]
  draining := by rw [plc]
  due := by
    refine ⟨id, fun h => ?_⟩
    have open' : e.dueAt h = false := by simp [Entry.dueAt, proposed]
    have stays : ∀ y : Entry, (y.dueAt h && !p y) = y.dueAt h := fun y => by
      cases own : p y with
      | false => simp
      | true => simp [Entry.dueAt, rx y own]
    rw [Entry.aged_id, plc]
    simp [List.filter_append, open', List.filter_filter, stays]
  held d _ _ bare := staging d bare
  raised _ _ r := notifies.keeps r
  out _ mem := by rwa [out]

theorem State.linkRequest_rides (s : State) (c : LinkChange) : s.Rides began 0 (s.linkRequest c) := by
  obtain refused | ⟨⟨a, l, anchor, e⟩, -, notifies⟩ := s.linkRequest_cases c
  · rw [refused]
    exact .refl s
  · have locked : s.htu.anchor = s.lowestLocked → s.isLocked a = true := fun anchored =>
      State.lowestLocked_isLocked (anchored.symm.trans anchor)
    exact .proposes (s.linkRequest_keepsHop c) (p := fun _ => false) (e := s.requestEntry c) locked nofun rfl (by rw [e])
      (by rw [e]; simp; rfl) (by rw [e]) (by rw [e]) (by rw [e]) (by rw [e]) (fun d bare => by rwa [e]) notifies (by rw [e])

/-- A proposal once the RX_PROFILE entries of the unit have left the plan (R71, R81). -/
def State.enterProposal (s : State) (u : UnitId) (q : Nat) : State :=
  ((s.bumpTag.addEntry (s.proposal u q)).offer (s.serviceCarrier u) (.proposeRx s.plc.nextTag u q)).setAde u fun a =>
    { a with upDwell := 0, state := .proposing }

theorem State.enterProposal_same (s : State) (u : UnitId) (q : Nat) :
    (s.enterProposal u q).sched = s.sched ∧ s.Notifies (s.enterProposal u q) := by
  obtain ⟨l, added⟩ := s.bumpTag.addEntry_plan (s.proposal u q)
  have flags : s.Notifies (s.bumpTag.addEntry (s.proposal u q)) := (State.planFlag_notifies _ _).after rfl rfl
  have offered : (s.bumpTag.addEntry (s.proposal u q)).Notifies (s.enterProposal u q) := .same rfl rfl
  refine ⟨?_, flags.trans offered⟩
  unfold State.enterProposal
  rw [added]
  rfl

theorem State.proposeProfile_enters (s : State) (u : UnitId) (q : Nat) :
    s.proposeProfile u q = (s.removeEntries (Entry.isRxOf u)).enterProposal u q := by
  obtain ⟨a, d, l, removed, -⟩ := s.removeEntries_shape (Entry.isRxOf u)
  unfold State.proposeProfile State.enterProposal
  rw [removed]
  rfl

theorem State.proposeProfile_rides {s : State} {u : UnitId} (locked : s.isLocked (s.serviceCarrier u) = true) (q : Nat) :
    s.Rides began 0 (s.proposeProfile u q) := by
  obtain ⟨g, x, l, -, e⟩ := s.proposeProfile_shape u q
  obtain ⟨a, d, l', removed, -⟩ := s.removeEntries_shape (Entry.isRxOf u)
  obtain ⟨sched, notifies⟩ := (s.removeEntries (Entry.isRxOf u)).enterProposal_same u q
  rw [← State.proposeProfile_enters] at sched notifies
  have formed : (s.removeEntries (Entry.isRxOf u)).sched = s.sched.formed (s.removeEntries (Entry.isRxOf u)).capacityNow :=
    congrArg State.sched removed
  refine .proposes (s.proposeProfile_keepsHop u q) (a := s.serviceCarrier u) (e := s.proposal u q) (p := Entry.isRxOf u) (fun _ => locked)
    (fun _ => Entry.isRx_of_isRxOf) rfl (by rw [e]) (by rw [e]) (by rw [e]) (by rw [e]) (by rw [e]) (by rw [e]) (fun d bare => ?_)
    ((s.removeEntries_notifies _).trans notifies) (by rw [e])
  rw [sched, formed]
  exact (s.sched.formed_leaves d _).held bare

theorem State.offerAsk_rides {s : State} {u : UnitId} (locked : s.isLocked (s.serviceCarrier u) = true) (c : CarrierId) (n : Int) :
    s.Rides began 0 (s.offerAsk u c n) where
  toKeepsHop := s.offerAsk_keepsHop u c n
  hsn := rfl
  clc _ := .inl rfl
  queue _ k unlocked empty := by
    have other : s.serviceCarrier u ≠ k := fun same => by simp [← same, locked] at unlocked
    exact (State.offered_queue other _).trans empty
  level := rfl
  effective := rfl
  acting := rfl
  substitutes := rfl
  dwell _ young := young
  profile := rfl
  draining := rfl
  due := ⟨id, fun h => (Entry.aged_id _).symm⟩
  held _ _ _ h := h
  raised _ _ h := h
  out _ h := h

/-- A unit with a LOCKED member has a LOCKED service carrier (R14). -/
theorem State.serviceCarrier_locked {s : State} {u : UnitId} (locked : s.unitLocked u = true) : s.isLocked (s.serviceCarrier u) = true := by
  unfold State.serviceCarrier
  split
  · assumption
  · rename_i primary
    rcases s.members_cases u with none' | members
    · simp [State.unitLocked, none'] at locked
    · simp only [State.unitLocked, members, List.any_cons, primary, Bool.false_or] at locked
      cases mirror : s.mirrorOf u with
      | none => simp [mirror] at locked
      | some m =>
        have found : s.isLocked m = true := by simpa [mirror] using locked
        simp only [found, if_true]

/-- The decision of a unit whose mean is that of a LOCKED member (R46, R62). -/
theorem State.decideUnit_rides {s : State} {u : UnitId} (locked : s.governing u ≠ none → s.unitLocked u = true) :
    s.Rides began 0 (s.decideUnit u) := by
  cases mean : s.governing u with
  | none =>
    rw [State.decideUnit_undefined mean]
    exact .refl s
  | some y =>
    have service := State.serviceCarrier_locked (locked (by simp [mean]))
    obtain stays | ⟨c, n, asks, -⟩ | ⟨q, proposes⟩ := s.decideUnit_decidesWithin u
    · rw [stays]
      exact .refl s
    · rw [asks]
      exact State.offerAsk_rides service c n
    · rw [proposes]
      exact State.proposeProfile_rides service q

theorem State.adaptBoundary_rides (s : State) (u : UnitId) : s.Rides began 0 (s.adaptBoundary true u) := by
  have tick : s.Rides began 0 (s.tickUnit u) := by
    unfold State.tickUnit
    dsimp only
    split
    · exact (s.setAde_rides u _).trans (State.setAde_rides _ u _)
    · exact s.setAde_rides u _
  have ticked : s.Rides began 0 (s.ticked u) := (tick.trans (expireIf_rides _ _ _)).trans (expireIf_rides _ _ _)
  rw [State.adaptBoundary_eq]
  split
  · exact ticked.trans (expire_rides _ _)
  · refine ticked.trans (State.decideUnit_rides fun defined => ?_)
    rw [State.unitLocked_congr ticked.settings ticked.locked]
    by_contra unlocked
    refine defined ?_
    rw [Bool.not_eq_true] at unlocked
    rw [State.governing, State.ticked_unlocked unlocked]
    exact State.formMean_unlocked unlocked

/-! ## Plan, lanes, pool, scheduler (R92, R126–R136, R142, R167, R168) -/

theorem State.agePlan_rides (s : State) : s.Rides began 0 s.agePlan where
  toKeepsHop := s.agePlan_keepsHop
  hsn := rfl
  clc _ := .inl rfl
  queue _ _ _ empty := empty
  level := rfl
  effective := rfl
  acting := rfl
  substitutes := rfl
  dwell _ young := young
  profile := rfl
  draining := rfl
  due := by
    refine ⟨fun n => min (n + 1) 15, fun h => ?_⟩
    show (s.plc.plan.map (Entry.aged fun n => min (n + 1) 15)).filter (Entry.dueAt h) = _
    rw [List.filter_map]
    rfl
  held _ _ _ h := h
  raised _ _ h := h
  out _ h := h

theorem State.planBoundary_rides {s : State} (none' : s.noneDue s.htu.hsn) : s.Rides began 0 (s.planBoundary true) := by
  unfold State.planBoundary
  rw [State.applyDue_none none']
  exact ((foldl_rides (fun s _ => expireIf_rides _ _ s) ids s).trans (State.agePlan_rides _)).trans
    (foldl_rides (fun s _ => expire_rides _ s) _ _)

theorem Sched.markEmpty_staging (x : Sched) : x.markEmpty.staging = x.staging := by
  unfold Sched.markEmpty
  induction allLanes generalizing x with
  | nil => rfl
  | cons q qs ih => exact (ih _).trans rfl

theorem State.unbindBoundary_rides (s : State) : s.Rides began 0 s.unbindBoundary := by
  have unbound : ∀ (d : UnitId), s.sched.Spares d s.sched.unbindMarked := fun d => Sched.unbindWhere_spares d _ s.sched
  have h : s.OnlyQueues { s with sched := s.sched.unbindMarked.markEmpty } := ⟨_, s.links, rfl⟩
  have marks : s.Rides began 0 { s with sched := s.sched.unbindMarked.markEmpty } := h.rides (fun d _ bare => by
    show (s.sched.unbindMarked.markEmpty.staging.get d).held = 0
    rw [Sched.markEmpty_staging]
    exact (unbound d).held bare) fun _ _ r => r
  unfold State.unbindBoundary
  dsimp only
  split
  · exact marks.trans (State.refill_rides _)
  · exact marks

theorem State.laneBoundary_rides (s : State) : s.Rides began 0 (s.laneBoundary true) := by
  have ticked : ∀ x : State, x.Rides began 0 { x with sched := x.sched.tickLanes } := fun x =>
    State.OnlyQueues.rides ⟨_, x.links, rfl⟩ (fun _ _ h => h) fun _ _ r => r
  have backlog : ∀ (x : State) (n : Nat), x.Rides began 0 { x with cpm := { x.cpm with backlog := n } } := fun x n =>
    .of (x.setCpm_keepsHop _) rfl rfl rfl rfl rfl rfl rfl rfl (fun _ _ h => h) (fun _ _ h => h) fun _ h => h
  have stalled : ∀ x : State, x.Rides began 0 (x.stalledLanes.foldl (fun y q => expire true (.stall q.1 q.2) y) x) := fun x =>
    foldl_rides (fun s _ => expire_rides _ s) _ x
  exact ((s.unbindBoundary_rides.trans (ticked _)).trans (stalled _)).trans (backlog _ _)

/-- The pool counts: every revert dwell by one at most (R121, R126, R131, R136). -/
theorem State.poolCounts_rides (s : State) : s.Rides began 1 s.poolCounts where
  toKeepsHop := s.setCpm_keepsHop _
  hsn := rfl
  clc _ := .inl rfl
  queue _ _ _ empty := empty
  level := rfl
  effective := rfl
  acting := rfl
  substitutes := by
    have same : ∀ (p : CarrierId → Bool) (b : Nat) (r : Substitution), ((r.tick p b).s, (r.tick p b).t) = (r.s, r.t) := fun p b r => by
      unfold Substitution.tick
      split <;> rfl
    simp [State.poolCounts, State.countDemand, Cpm.substitutes, Cpm.lower, Cpm.closeCounts, same, Function.comp_def]
  dwell b young r last := by
    have counted : s.poolCounts.cpm.subs = s.cpm.subs.map (Substitution.tick s.isLocked s.settings.revertDwell) := rfl
    rw [counted, List.getLast?_map, Option.map_eq_some_iff] at last
    obtain ⟨q, before, rfl⟩ := last
    have old := young q before
    unfold Substitution.tick
    split
    · exact (Nat.min_le_left _ _).trans (Nat.succ_le_succ old)
    · exact old.trans (Nat.le_succ b)
  profile := rfl
  draining := rfl
  due := ⟨id, fun h => (Entry.aged_id _).symm⟩
  held _ _ _ h := h
  raised _ _ h := h
  out _ h := h

theorem State.poolBoundary_rides (s : State) : s.Rides began 1 (s.poolBoundary true) := by
  have counts : s.Rides began 1 s.poolCounts := s.poolCounts_rides
  exact counts.trans (s.poolBoundary_covered (R := State.Rides began 0) .refl .trans State.linkRequest_rides expireIf_rides)

theorem State.scheduleBoundary_rides {s : State} (none' : s.noneDue s.htu.hsn) : s.Rides began 0 s.scheduleBoundary := by
  have renewed : s.OnlyQueues s.renewCredits := ⟨_, s.links, rfl⟩
  unfold State.scheduleBoundary
  rw [State.applyDue_none none']
  exact (renewed.rides (fun _ _ h => h) fun _ _ r => r).trans (State.refill_rides _)

/-- A part that meets no due entry, or that applies none. -/
theorem State.boundaryPart_rides {s : State} {p : BoundaryPart} (idle : s.noneDue s.htu.hsn ∨ (p ≠ .plan ∧ p ≠ .schedule)) :
    s.Rides began ([p].count .pool) (State.boundaryPart true began s p) := by
  cases p with
  | clc k => exact s.clcBoundary_rides k
  | recovery => exact s.recoveryBoundary_rides
  | fade => exact foldl_rides (fun s k => s.fadeBoundary_rides k) ids s
  | adapt u => exact s.adaptBoundary_rides u
  | plan => exact State.planBoundary_rides (idle.resolve_right fun h => h.1 rfl)
  | power => exact s.powerBoundary_rides
  | lanes => exact s.laneBoundary_rides
  | pool => exact s.poolBoundary_rides
  | schedule => exact State.scheduleBoundary_rides (idle.resolve_right fun h => h.2 rfl)

theorem State.boundaryParts_rides {s : State} {ps : List BoundaryPart}
    (idle : s.noneDue s.htu.hsn ∨ (.plan ∉ ps ∧ .schedule ∉ ps)) :
    s.Rides began (ps.count .pool) (ps.foldl (State.boundaryPart true began) s) := by
  induction ps generalizing s with
  | nil => exact .refl s
  | cons p ps ih =>
    have first : s.Rides began ([p].count .pool) (State.boundaryPart true began s p) := State.boundaryPart_rides (idle.imp id fun apart =>
      ⟨fun same => apart.1 (by simp [same]), fun same => apart.2 (by simp [same])⟩)
    have rest := ih (s := State.boundaryPart true began s p) (idle.imp
      (fun none' => by rw [first.hsn]; exact first.toKeepsTargets.noneDue none')
      fun apart => ⟨fun mem => apart.1 (by simp [mem]), fun mem => apart.2 (by simp [mem])⟩)
    have whole := first.trans rest
    rwa [← List.count_append] at whole

end

end Sys2Proof.Machine
end

section
/-! SUPPORT. The apply of due entries at a boundary (R2, R94–R97): the effect of an entry applied alone, carried over the parts of the
boundary that the event takes before and after its apply. -/

namespace Sys2Proof.Machine

/-! ## What the parts that apply no entry read alike -/

section
variable {began : Four LinkState} {n : Nat} {s x y t : State}

theorem State.Rides.joined (h : s.Rides began n x) {k : CarrierId} (joined : s.isJoined k = true) : x.isJoined k = true := by
  simp only [State.isJoined, Bool.and_eq_true] at joined ⊢
  refine ⟨(h.locked k).trans joined.1, ?_⟩
  obtain same | ⟨-, counted⟩ := h.clc k
  · rw [same]
    exact joined.2
  · exact counted.joined joined.2

theorem State.Rides.serves (h : s.Rides began n x) {u : UnitId} (served : s.inService u = true) : x.inService u = true := by
  have acts : x.actsTraffic u = s.actsTraffic u := by rw [State.actsTraffic, h.acting, State.actsTraffic]
  have drains : x.isDraining u = s.isDraining u := by rw [State.isDraining, h.draining, State.isDraining]
  simp only [State.inService, Bool.and_eq_true] at served ⊢
  obtain ⟨⟨joined, traffic⟩, undrained⟩ := served
  refine ⟨⟨?_, acts.trans traffic⟩, by rwa [drains]⟩
  obtain ⟨k, member, up⟩ := List.any_eq_true.1 joined
  exact List.any_eq_true.2 ⟨k, by rwa [State.members_congr h.settings], h.joined up⟩

theorem State.Rides.startRule (h : s.Rides began n x) (o : Option Nat) : x.startRule o ↔ s.startRule o := by
  have figures : x.figures = s.figures := by rw [State.figures, h.settings, h.effective, State.figures]
  rw [State.startRule, figures, h.settings, State.budgetInUse_congr h.link h.level, State.startRule]

theorem State.Rides.unitOf (h : s.Rides began n x) (k : CarrierId) : x.unitOf k = s.unitOf k := State.unitOf_congr h.settings k

/-- An entry that alone is due is so still, its age apart (R95). -/
theorem State.Rides.dueAlone (h : s.Rides began n x) {g : Hsn} {e : Entry} (alone : s.DueAlone g e) :
    ∃ e', x.DueAlone g e' ∧ e'.change = e.change := by
  obtain ⟨f, due⟩ := h.due
  refine ⟨e.aged f, ⟨?_, alone.due, fun z mem dueZ => ?_⟩, rfl⟩
  · have here : e.aged f ∈ x.plc.plan.filter (Entry.dueAt g) := by
      rw [due]
      exact List.mem_map_of_mem (List.mem_filter.2 ⟨alone.mem, alone.due⟩)
    exact (List.mem_filter.1 here).1
  · have here : z ∈ x.plc.plan.filter (Entry.dueAt g) := List.mem_filter.2 ⟨mem, dueZ⟩
    rw [due] at here
    obtain ⟨e', old, rfl⟩ := List.mem_map.1 here
    rw [alone.sole e' (List.mem_filter.1 old).1 (List.mem_filter.1 old).2]

/-! ## The parts before the apply -/

theorem State.Rides.parkBefore (h : s.Rides began n x) {k : CarrierId} (applied : x.ParkApplied y k) : s.ParkApplied y k := by
  obtain ⟨awake, off, undrained⟩ := applied
  rw [h.link] at awake off
  refine ⟨fun was => ?_, off, fun u unit => undrained u ((h.unitOf k).trans unit)⟩
  obtain ⟨clc, queue, mute⟩ := awake was
  refine ⟨clc.trans ?_, queue, mute⟩
  obtain same | ⟨-, counted⟩ := h.clc k
  · rw [same]
  · exact counted.awake was

theorem State.Rides.wakeBefore (h : s.Rides began n x) {k : CarrierId} (applied : x.WakeApplied y k) : s.WakeApplied y k := by
  obtain ⟨parked, stays⟩ := applied
  rw [h.link] at parked stays
  refine ⟨fun was => ?_, stays⟩
  have same : x.clc.get k = s.clc.get k := (h.clc k).elim id fun counts => counts.2.parked was
  obtain ⟨o, rule, starts, refused⟩ := parked was
  exact ⟨o, (h.startRule o).1 rule, same ▸ starts, refused⟩

theorem State.Rides.promoteBefore (h : s.Rides began n x) {c d : CarrierId} (applied : x.PromotedFresh y c d) : s.PromotedFresh y c d := by
  obtain ⟨⟨passes, fails⟩, fresh⟩ := applied
  rw [h.acting, h.substitutes] at passes fails
  rw [h.acting] at fresh
  refine ⟨⟨fun test => ?_, fails⟩, fresh⟩
  obtain ⟨acting, subs, young, bare⟩ := passes test
  exact ⟨acting, subs, young, fun unit served => bare ((h.unitOf d).trans unit) (h.serves served)⟩

theorem State.Rides.revertBefore (h : s.Rides began n x) {c d : CarrierId} (applied : x.RevertApplied y c d) : s.RevertApplied y c d := by
  obtain ⟨holds, fails, undrained⟩ := applied
  rw [h.acting, h.substitutes] at holds fails
  exact ⟨holds, fails, fun u unit => undrained u ((h.unitOf c).trans unit)⟩

theorem State.Rides.before (h : s.Rides began n x) {c : Change} (applied : x.ChangeApplied y c) : s.ChangeApplied y c where
  plan := applied.plan
  draining u undrained := applied.draining u (by rwa [h.draining])
  tx u q same := by rw [applied.tx u q same, h.profile]
  park k same := h.parkBefore (applied.park k same)
  wake k same := h.wakeBefore (applied.wake k same)
  promote c d same := h.promoteBefore (applied.promote c d same)
  revert c d same := h.revertBefore (applied.revert c d same)

/-! ## The parts after the apply -/

/-- A carrier whose link state has changed since the boundary began is counted no more (log 37). -/
theorem State.Rides.uncounted (h : y.Rides began n t) {k : CarrierId} (moved : y.link k ≠ began.get k) : t.clc.get k = y.clc.get k :=
  (h.clc k).elim id fun counts => absurd counts.1 moved

theorem State.Rides.parkAfter (h : y.Rides began n t) {k : CarrierId} (anchored : y.htu.anchor = y.lowestLocked)
    (start : began.get k = s.link k) (applied : s.ParkApplied y k) : s.ParkApplied t k := by
  obtain ⟨awake, off, undrained⟩ := applied
  refine ⟨fun was => ?_, fun was => (h.link k).trans (off was), fun u unit => by rw [h.draining]; exact undrained u unit⟩
  obtain ⟨clc, queue, mute⟩ := awake was
  have parked : y.link k = .parked := by rw [State.link, clc]
  have moved : y.link k ≠ began.get k := by
    rw [parked, start]
    rintro same
    simp [← same] at was
  exact ⟨(h.uncounted moved).trans clc, h.queue anchored k (by simp [State.isLocked, parked]) queue, fun heard => h.out _ (mute heard)⟩

theorem State.Rides.wakeAfter (h : y.Rides began n t) {k : CarrierId} (start : began.get k = s.link k)
    (applied : s.WakeApplied y k) : s.WakeApplied t k := by
  obtain ⟨parked, stays⟩ := applied
  refine ⟨fun was => ?_, fun other => (h.link k).trans (stays other)⟩
  obtain ⟨o, rule, starts, refused⟩ := parked was
  refine ⟨o, rule, fun l same => ?_, fun none' => (h.link k).trans (refused none')⟩
  obtain ⟨clc, level, set, unmute⟩ := starts l same
  have moved : y.link k ≠ began.get k := by
    rw [State.link, clc, start, was]
    exact nofun
  exact ⟨(h.uncounted moved).trans clc, by rw [h.level]; exact level, h.out _ set, h.out _ unmute⟩

theorem State.Rides.promoteAfter (h : y.Rides began n t) (once : n ≤ 1) {c d : CarrierId}
    (draining : ∀ u, s.plc.draining.get u = false → y.plc.draining.get u = false) (applied : s.PromotedFresh y c d) :
    s.PromoteApplied t c d := by
  obtain ⟨⟨passes, fails⟩, fresh⟩ := applied
  refine ⟨fun test => ?_, fun other => by rw [h.acting, h.substitutes]; exact fails other⟩
  obtain ⟨acting, subs, -, bare⟩ := passes test
  refine ⟨by rw [h.acting]; exact acting, by rw [h.substitutes]; exact subs, fun r last => ?_, fun unit served => ?_⟩
  · exact (h.dwell 0 (fun q before => (fresh test q before).le) r last).trans ((Nat.zero_add n).le.trans once)
  · have undrained : s.plc.draining.get d = false := by
      simp only [State.inService, State.isDraining, Bool.and_eq_true, Bool.not_eq_true'] at served
      exact served.2
    refine h.held d ?_ (draining d undrained) (bare unit served)
    rw [acting, Four.get_set_self]
    exact nofun

theorem State.Rides.revertAfter (h : y.Rides began n t) {c d : CarrierId} (applied : s.RevertApplied y c d) : s.RevertApplied t c d := by
  obtain ⟨holds, fails, undrained⟩ := applied
  refine ⟨fun test => ?_, fun test => ?_, fun u unit => by rw [h.draining]; exact undrained u unit⟩
  · rw [h.acting, h.substitutes]
    exact holds test
  · rw [h.acting, h.substitutes]
    exact fails test

/-! ## The part that applies -/

/-- The two parts that apply due entries act as they do behind the apply (R96). -/
theorem State.boundaryPart_applied {own : Bool} {p : BoundaryPart} (applies : p = .plan ∨ p = .schedule)
    (anchored : x.htu.anchor = x.lowestLocked) :
    State.boundaryPart own began x p = State.boundaryPart own began (x.applyDue x.htu.hsn) p := by
  have hsn : (x.applyDue x.htu.hsn).htu.hsn = x.htu.hsn := ((x.applyDue_keepsHop _).anchor anchored).2
  have twice : (x.applyDue x.htu.hsn).applyDue (x.applyDue x.htu.hsn).htu.hsn = x.applyDue x.htu.hsn := by
    rw [hsn]
    exact State.applyDue_none (x.applyDue_noneDue _)
  obtain rfl | rfl := applies
  · simp only [State.boundaryPart, State.planBoundary, twice]
  · simp only [State.boundaryPart, State.scheduleBoundary, twice]

/-- After the part of the Plan Controller no entry is due (R95, R96). -/
theorem State.boundaryParts_noneDue {own : Bool} {ps : List BoundaryPart} (plans : .plan ∈ ps) (anchored : s.htu.anchor = s.lowestLocked) :
    (ps.foldl (State.boundaryPart own began) s).noneDue (ps.foldl (State.boundaryPart own began) s).htu.hsn := by
  obtain ⟨before, after, split⟩ := List.append_of_mem plans
  rw [split, List.foldl_append, List.foldl_cons]
  have early : s.KeepsHop (before.foldl (State.boundaryPart own began) s) := State.boundaryParts_keepsHop own began before s
  obtain ⟨anchored', -⟩ := early.anchor anchored
  rw [State.boundaryPart_applied (.inl rfl) anchored']
  generalize before.foldl (State.boundaryPart own began) s = x at anchored' ⊢
  have none' := x.applyDue_noneDue x.htu.hsn
  obtain ⟨anchored, hsn⟩ := (x.applyDue_keepsHop x.htu.hsn).anchor anchored'
  have late : (x.applyDue x.htu.hsn).KeepsHop
      (after.foldl (State.boundaryPart own began) (State.boundaryPart own began (x.applyDue x.htu.hsn) .plan)) :=
    (State.boundaryPart_keepsHop own began _ .plan).trans (State.boundaryParts_keepsHop own began after _)
  rw [(late.anchor anchored).2, hsn]
  exact late.toKeepsTargets.noneDue none'

/-- The parts of a boundary in an order that the part can take: those before the first that applies, it, and the others (log 1). -/
theorem boundaryOrder_split (order : List BoundaryPart) : ∃ a p b, boundaryOrder order = a ++ p :: b ∧ (.plan ∉ a ∧ .schedule ∉ a) ∧
    (p = .plan ∨ p = .schedule) ∧ (p :: b).count .pool ≤ 1 := by
  obtain ⟨nodup, all⟩ := nodup_of_validOrder (validOrder_boundaryOrder order)
  obtain ⟨p, found⟩ : ∃ p, (boundaryOrder order).find? (fun q => q == .plan || q == .schedule) = some p := by
    rw [← Option.isSome_iff_exists, List.find?_isSome]
    exact ⟨.plan, all _ (by decide), rfl⟩
  obtain ⟨applies, a, b, split, first⟩ := List.find?_eq_some_iff_append.1 found
  refine ⟨a, p, b, split, ⟨fun mem => by simpa using first _ mem, fun mem => by simpa using first _ mem⟩, by simpa using applies, ?_⟩
  have once := List.nodup_iff_count_le_one.1 nodup .pool
  rw [split, List.count_append] at once
  omega

/-- A superframe begins with the anchor that the expiries left to it have formed (R2, R5). -/
theorem State.beginSuperframe_anchored (anchored : s.htu.anchor = s.lowestLocked) :
    s.beginSuperframe.htu.anchor = s.beginSuperframe.lowestLocked := by
  have expired : ({ s with due := [] } : State).KeepsHop (s.due.foldl runExpiry { s with due := [] }) :=
    foldl_keepsHop runExpiry_keepsHop s.due _
  exact (expired.anchor anchored).1

/-- The effect of an entry that alone is due at the superframe that has begun (R95, R97). -/
theorem State.boundaryParts_applied {e : Entry} (order : List BoundaryPart) (anchored : s.htu.anchor = s.lowestLocked)
    (alone : s.DueAlone s.htu.hsn e) :
    ∃ y n, n ≤ 1 ∧ s.ChangeApplied y e.change ∧ y.htu.anchor = y.lowestLocked ∧
      y.Rides began n ((boundaryOrder order).foldl (State.boundaryPart true began) s) := by
  obtain ⟨a, p, b, split, apart, applies, once⟩ := boundaryOrder_split order
  rw [split, List.foldl_append, List.foldl_cons]
  have early : s.Rides began (a.count .pool) (a.foldl (State.boundaryPart true began) s) := State.boundaryParts_rides (.inr apart)
  generalize a.foldl (State.boundaryPart true began) s = x at early
  obtain ⟨e', alone', change⟩ := early.dueAlone alone
  obtain ⟨anchored', hsn⟩ := early.anchor anchored
  rw [← hsn] at alone'
  obtain ⟨rx, -, -⟩ := Entry.dueAt_iff.1 alone'.due
  have applied := State.applyEntry_applied anchored' alone'.mem rx
  have none' := x.applyDue_noneDue x.htu.hsn
  obtain ⟨behind, same⟩ := (x.applyDue_keepsHop x.htu.hsn).anchor anchored'
  rw [change, ← State.applyDue_one alone'] at applied
  have rest : (x.applyDue x.htu.hsn).Rides began ((p :: b).count .pool)
      ((p :: b).foldl (State.boundaryPart true began) (x.applyDue x.htu.hsn)) := State.boundaryParts_rides (.inl (by rwa [same]))
  rw [List.foldl_cons, ← State.boundaryPart_applied applies anchored'] at rest
  exact ⟨_, _, once, early.before applied, behind, rest⟩

end

/-- Settles O8: the part of the Plan Controller leaves no entry due, and no part makes one due. Where one alone is due, the first part
that applies meets it as the boundary found it, and the parts around that one leave its effect. -/
theorem boundaryAppliesDueEntries : Obligations.BoundaryAppliesDueEntries := by
  refine ⟨fun order own s running anchored => ?_, fun order e s running due anchored mem rx agreed target sole => ?_⟩
  · refine completes_event (f := fun s => s.boundary order own) rfl running ?_
    obtain ⟨-, all⟩ := nodup_of_validOrder (validOrder_boundaryOrder order)
    exact State.boundaryParts_noneDue (all .plan (by decide)) (State.beginSuperframe_anchored (s := { s with out := [] }) anchored)
  · refine completes_event (f := fun s => s.boundary order true) rfl running ?_
    have alone : (({ s with out := [] } : State).begun).DueAlone (s.htu.hsn + 1) e :=
      ⟨mem, Entry.dueAt_iff.2 ⟨rx, agreed, target⟩, fun x here dueX => by
        obtain ⟨rxX, agreedX, targetX⟩ := Entry.dueAt_iff.1 dueX
        exact sole x here rxX agreedX targetX⟩
    have start : ∀ k, (s.clc.map Clc.link).get k = (({ s with out := [] } : State).begun).link k := fun k =>
      Four.get_map s.clc Clc.link k
    obtain ⟨y, n, once, applied, behind, rides⟩ := State.boundaryParts_applied (s := ({ s with out := [] } : State).begun)
      (began := s.clc.map Clc.link) order anchored alone
    rw [State.boundary, State.beginSuperframe_eq (by exact due)]
    refine ⟨fun j => ?_, fun u q same => ?_, fun k same => ?_, fun k same => ?_, fun c d same => ?_, fun c d same => ?_⟩
    · exact (State.startTransmitters_notifies _).keeps (rides.raised j _ (applied.plan j))
    · exact rides.profile.trans (applied.tx u q same)
    · exact rides.parkAfter behind (start k) (applied.park k same)
    · exact rides.wakeAfter (start k) (applied.wake k same)
    · exact rides.promoteAfter (s := ({ s with out := [] } : State).begun) once applied.draining (applied.promote c d same)
    · exact rides.revertAfter (applied.revert c d same)

end Sys2Proof.Machine
end

section
/-! SUPPORT. Pair frame records (R152): the apply of entries opens none. -/

namespace Sys2Proof.Machine

/-! ## The scheduler -/

/-- Every pair frame record of `y` stood in `x` (R152). -/
structure Sched.OldRecords (x y : Sched) : Prop where
  old : ∀ u r, (y.staging.get u).record = some r → (x.staging.get u).record = some r

section
variable {x y z : Sched}

theorem Sched.OldRecords.same (staging : y.staging = x.staging) : x.OldRecords y := ⟨fun _ _ h => staging ▸ h⟩

theorem Sched.OldRecords.refl (x : Sched) : x.OldRecords x := .same rfl

theorem Sched.OldRecords.trans (h : x.OldRecords y) (k : y.OldRecords z) : x.OldRecords z :=
  ⟨fun u r e => h.old u r (k.old u r e)⟩

theorem Sched.OldRecords.after (h : y.OldRecords z) (staging : y.staging = x.staging) : x.OldRecords z :=
  (Sched.OldRecords.same staging).trans h

theorem Sched.foldl_oldRecords {α : Type} {f : Sched → α → Sched} (h : ∀ x a, Sched.OldRecords x (f x a)) (as : List α) (x : Sched) :
    x.OldRecords (as.foldl f x) := by
  induction as generalizing x with
  | nil => exact .refl x
  | cons a as ih => exact (h x a).trans (ih _)

/-- A staging is replaced by one with the same record or none. -/
theorem Sched.OldRecords.staged {v : UnitId} {g : Staging} (staging : y.staging = x.staging.set v g)
    (record : g.record = (x.staging.get v).record ∨ g.record = none) : x.OldRecords y := by
  refine ⟨fun u r h => ?_⟩
  rw [staging, Four.get_set] at h
  split at h
  · rename_i own
    subst own
    obtain same | none' := record
    · rwa [← same]
    · simp [none'] at h
  · exact h

theorem Sched.dropConts_oldRecords (x : Sched) (p : Continuation → Bool) : x.OldRecords (x.dropConts p) := by
  refine ⟨fun u r h => ?_⟩
  simpa [Sched.dropConts, Staging.dropConts] using h

theorem Sched.stagePacket_oldRecords (x : Sched) (v : UnitId) (t : TenantId) (l : LaneIx) (p : Packet) (c : Phase) :
    x.OldRecords (x.stagePacket v t l p c).1 := by
  have segment : ∀ (g : Staging) (c : LaneClass) (bs : List Block), (g.setSegment c bs).record = g.record := fun g c bs => by
    cases c <;> rfl
  have cont : ∀ (g : Staging) (c : LaneClass) (k : Option Continuation), (g.setCont c k).record = g.record := fun g c k => by
    cases c <;> rfl
  have charged : ∀ (y : Sched) (n : Nat), (y.charge t c n).staging = y.staging := fun y n => by cases c <;> rfl
  refine .staged (charged _ _) (.inl ?_)
  repeat' split
  all_goals simp [segment, cont]

theorem Sched.serveCont_oldRecords (x : Sched) (v : UnitId) (c : LaneClass) : x.OldRecords (x.serveCont v c) := by
  unfold Sched.serveCont
  split
  · split
    · exact Sched.stagePacket_oldRecords ..
    · exact .refl x
  · exact .refl x

theorem Sched.visit_oldRecords (env : SchedEnv) (v : UnitId) (t : TenantId) (fuel : Nat) (cs : List LaneClass) (n : Nat) (x : Sched) :
    x.OldRecords (Sched.visit env v t fuel cs n x) := by
  induction fuel generalizing cs n x with
  | zero =>
    unfold Sched.visit
    exact .refl x
  | succ fuel ih =>
    cases cs with
    | nil =>
      unfold Sched.visit
      exact .refl x
    | cons c cs =>
      unfold Sched.visit
      split
      · exact ih cs n x
      · split
        · exact (x.stagePacket_oldRecords v _ _ _ _).trans ((ih _ _ _).after rfl)
        · exact .refl x

theorem Sched.pick_oldRecords {env : SchedEnv} {v : UnitId} (h : x.pick env v = some y) : x.OldRecords y := by
  unfold Sched.pick at h
  split at h
  · rename_i assured
    cases h
    unfold Sched.pickAssured at assured
    split at assured <;> cases assured
    exact (x.stagePacket_oldRecords v _ _ _ _).trans (.same rfl)
  · split at h
    · rename_i elastic
      cases h
      unfold Sched.pickElastic at elastic
      split at elastic <;> cases elastic
      exact (x.stagePacket_oldRecords v _ _ _ _).trans (.same rfl)
    · unfold Sched.pickExcess at h
      split at h <;> cases h
      exact (x.visit_oldRecords ..).trans (.same rfl)

theorem Sched.picks_oldRecords (env : SchedEnv) (v : UnitId) (fuel : Nat) (x : Sched) : x.OldRecords (Sched.picks env v fuel x) := by
  induction fuel generalizing x with
  | zero => exact .refl x
  | succ fuel ih =>
    unfold Sched.picks
    split
    · split
      · rename_i y picked
        exact (Sched.pick_oldRecords picked).trans (ih y)
      · exact .refl x
    · exact .refl x

theorem Sched.refill_oldRecords (env : SchedEnv) (x : Sched) : x.OldRecords (x.refill env) := by
  refine Sched.foldl_oldRecords (fun x v => ?_) ids x
  unfold Sched.refillUnit
  split
  · exact ((x.serveCont_oldRecords v .assured).trans (Sched.serveCont_oldRecords _ v .elastic)).trans (Sched.picks_oldRecords ..)
  · exact .refl x

theorem Sched.closeRecord_oldRecords (x : Sched) (v : UnitId) : x.OldRecords (x.closeRecord v) := .staged rfl (.inr rfl)

theorem Sched.removePacket_oldRecords (x : Sched) (t : TenantId) (l : LaneIx) (p : Packet) : x.OldRecords (x.removePacket t l p) := by
  have freed : (x.freeUnits t p).staging = x.staging := by
    unfold Sched.freeUnits
    split <;> rfl
  exact (Sched.dropConts_oldRecords _ _).after freed

/-- The flush of a unit leaves the records of the others (R154). -/
theorem Sched.flushUnit_oldRecords (x : Sched) (u : UnitId) : x.OldRecords (x.flushUnit u).1 := by
  have lost : ∀ (r : Sched × List (TenantId × CounterName)) q, r.1.OldRecords (Sched.loseStaged r q).1 := fun r q => by
    unfold Sched.loseStaged
    split
    · split
      · exact .same rfl
      · exact r.1.removePacket_oldRecords ..
    · exact .refl _
  have allLost : ∀ (qs : List (TenantId × LaneIx × Nat)) (r : Sched × List (TenantId × CounterName)),
      r.1.OldRecords (qs.foldl Sched.loseStaged r).1 := fun qs => by
    induction qs with
    | nil => exact fun r => .refl _
    | cons q qs ih => exact fun r => (lost r q).trans (ih _)
  have unbound : ∀ (y : Sched) (q : TenantId × LaneIx),
      y.OldRecords (if (y.lane q.1 q.2).boundTo u then y.unbind q.1 q.2 else y) := fun y q => by
    split
    · exact (Sched.dropConts_oldRecords _ _).after rfl
    · exact .refl y
  have emptied : x.OldRecords { x with staging := x.staging.set u .empty } := .staged rfl (.inr rfl)
  have broken : ∀ (y : Sched) (qs : List (TenantId × LaneIx × Seq)), y.OldRecords (y.breakLanes qs) := fun y qs =>
    Sched.foldl_oldRecords (f := fun (y : Sched) (q : TenantId × LaneIx × Seq) => y.breakAt q.1 q.2.1 q.2.2) (fun _ _ => .same rfl) qs y
  rw [Sched.flushUnit_eq]
  exact ((emptied.trans (allLost _ (_, []))).trans (broken _ _)).trans (Sched.foldl_oldRecords unbound _ _)

end

/-! ## The part -/

/-- Every pair frame record of `t` stood in `s` (R152). -/
structure State.OldRecords (s t : State) : Prop where
  sched : s.sched.OldRecords t.sched

section
variable {s t v : State}

theorem State.OldRecords.same (sched : t.sched = s.sched) : s.OldRecords t := ⟨.same (by rw [sched])⟩

theorem State.OldRecords.refl (s : State) : s.OldRecords s := .same rfl

theorem State.OldRecords.trans (h : s.OldRecords t) (k : t.OldRecords v) : s.OldRecords v := ⟨h.sched.trans k.sched⟩

theorem State.OldRecords.after (h : t.OldRecords v) (sched : t.sched = s.sched) : s.OldRecords v :=
  (State.OldRecords.same sched).trans h

theorem State.refill_oldRecords (s : State) : s.OldRecords s.refill := ⟨s.sched.refill_oldRecords s.env⟩

theorem State.formCapacity_oldRecords (s : State) : s.OldRecords s.formCapacity := by
  refine ⟨?_⟩
  rw [State.formCapacity_sched]
  exact .same rfl

theorem State.removeEntries_oldRecords (s : State) (p : Entry → Bool) : s.OldRecords (s.removeEntries p) := by
  obtain ⟨_, _, _, e, -⟩ := s.removeEntries_shape p
  have formed := congrArg (fun z : State => z.sched.staging) e
  exact ⟨.same formed⟩

theorem State.loseUnit_oldRecords (s : State) (u : UnitId) : s.OldRecords (s.loseUnit u) := by
  by_cases bare : (s.sched.staging.get u).held = 0
  · rw [State.loseUnit_bare bare]
    exact s.formCapacity_oldRecords
  · have flushed : s.OldRecords (s.flush u) := by
      refine ⟨?_⟩
      rw [State.flush_sched]
      exact s.sched.flushUnit_oldRecords u
    rw [State.loseUnit_held bare]
    exact (flushed.trans (State.formCapacity_oldRecords _)).trans (State.refill_oldRecords _)

theorem State.loseUnitOf_oldRecords (s : State) (k : CarrierId) : s.OldRecords (s.loseUnitOf k) := by
  unfold State.loseUnitOf
  split
  · exact s.loseUnit_oldRecords _
  · exact .refl s

theorem State.Requests.oldRecords (h : s.Requests t) : s.OldRecords t := by
  obtain ⟨_, _, _, _, e, -⟩ := h.only
  exact .same (by rw [e])

theorem State.reanchor_oldRecords (s : State) : s.OldRecords s.reanchor := by
  have down : ∀ x : State, x.OldRecords x.goHopDown := fun x => by
    have pooled : ∀ y : State, y.poolHopDown.sched = y.sched := fun y => by
      unfold State.poolHopDown
      dsimp only
      split <;> rfl
    have formed := State.formCapacity_oldRecords x.planHopDown.viewHopDown.poolHopDown
    have viewed : (x.removeEntries fun _ => true).OldRecords x.planHopDown.viewHopDown.poolHopDown := .same (pooled _)
    exact (((x.removeEntries_oldRecords fun _ => true).trans viewed).trans formed).trans ⟨.same rfl⟩
  have up : ∀ (x : State) (k : CarrierId), x.OldRecords (x.goHopUp k) := fun x k => by
    have adopted : (x.adopt k).sched = x.sched := by
      unfold State.adopt
      split
      · split <;> rfl
      · rfl
    exact .same adopted
  unfold State.reanchor
  dsimp only
  split
  · exact (up _ _).after rfl
  · exact (down _).after rfl
  · exact .same rfl
  · exact .same rfl

theorem State.closeIfTaken_oldRecords (s : State) (u : UnitId) : s.OldRecords (s.closeIfTaken u) := by
  unfold State.closeIfTaken
  split
  · split
    · exact ⟨s.sched.closeRecord_oldRecords u⟩
    · exact .refl s
  · exact .refl s

theorem State.releaseUnit_oldRecords (s : State) (u : UnitId) : s.OldRecords (s.releaseUnit u) := by
  have held : s.OldRecords (s.releaseHold u) := by
    obtain ⟨_, _, _, e⟩ := (s.releaseHold_receives u).only
    exact .same (by rw [e])
  have unlocked : ∀ x : State, x.OldRecords (x.unlockUnit u) := fun x => by
    unfold State.unlockUnit
    split
    · exact .refl x
    · rw [State.unitUnlocked_eq]
      exact (State.removeEntries_oldRecords _ _).after rfl
  have served : ∀ x : State, x.OldRecords (x.unlockService u) := fun x => by
    unfold State.unlockService
    split
    · exact x.formCapacity_oldRecords
    · exact x.loseUnit_oldRecords u
  exact ((held.trans (unlocked _)).trans (served _)).trans (State.closeIfTaken_oldRecords _ u)

theorem State.afterUnlock_oldRecords (s : State) (k : CarrierId) : s.OldRecords (s.afterUnlock k) := by
  cases unit : s.unitOf k with
  | none =>
    rw [State.afterUnlock, unit]
    exact s.reanchor_oldRecords
  | some u =>
    have hop : s.OldRecords (s.afterHop k u) :=
      ((s.releaseUnit_oldRecords u).trans (State.reanchor_oldRecords _)).trans (.same (State.clearDwell_sched _ k))
    exact hop.trans (State.afterHop_requests unit).oldRecords

/-- A change of link state that does not lead to LOCKED opens no record (R38, R152). -/
theorem State.changeLink_oldRecords {k : CarrierId} {f : Clc → Clc} (apart : (f (s.clc.get k)).link ≠ .locked) :
    s.OldRecords (s.changeLink k f) := by
  have checked : ∀ x : State, x.OldRecords x.settleCheck := fun x => by
    obtain ⟨_, _, e⟩ := x.settleCheck_only
    exact .same (by rw [e])
  by_cases was : s.link k = .locked
  · rw [State.changeLink_fromLocked was]
    exact ((State.afterUnlock_oldRecords (s.moved k (f (s.clc.get k))) k).trans (checked _)).after rfl
  · rw [State.changeLink_apart was apart]
    exact (checked _).after rfl

/-! ## The apply of entries (R95–R97) -/

theorem State.applyLink_oldRecords (s : State) (c : LinkChange) : s.OldRecords (s.applyChange (.link c)) := by
  have flushed : ∀ (x : State) (k : CarrierId), x.OldRecords (x.flushDraining k) := fun x k => by
    unfold State.flushDraining
    split
    · exact x.loseUnitOf_oldRecords k
    · exact .refl x
  have ended : ∀ (x : State) (k : CarrierId) (was : Bool), x.OldRecords (x.endDraining k was) := fun x k was => by
    unfold State.endDraining
    split
    · split
      · exact (State.formCapacity_oldRecords _).after rfl
      · exact .refl x
    · exact .refl x
  cases c with
  | park k =>
    have parked : ∀ x : State, x.OldRecords (x.parkCarrier k) := fun x => by
      have changed : ∀ y : State, y.OldRecords (y.changeLink k Clc.park) := fun y => State.changeLink_oldRecords nofun
      unfold State.parkCarrier
      split
      · exact (changed _).after rfl
      · exact (changed _).after rfl
      · exact changed x
      · exact .refl x
      · exact .refl x
      · exact .refl x
    exact ((flushed s k).trans (parked _)).trans (ended _ k _)
  | wake k =>
    have started : s.OldRecords (s.startOrStay k true) := by
      unfold State.startOrStay State.tryStart
      cases s.startGrant with
      | none => exact .refl s
      | some n => exact (State.changeLink_oldRecords (f := Clc.toAcquire true) nofun).after rfl
    show s.OldRecords (if s.link k = .parked then s.startOrStay k true else s)
    split
    · exact started
    · exact .refl s
  | promote c d =>
    show s.OldRecords (s.applyPromote c d)
    by_cases test : s.cpm.acting.get c = some .standby ∧ s.cpm.acting.get d = some .traffic
    · rw [State.applyPromote_eq test]
      split
      · exact (State.loseUnitOf_oldRecords (s.promoted c d) d).after rfl
      · exact (State.formCapacity_oldRecords (s.promoted c d)).after rfl
    · rw [show s.applyPromote c d = s from if_neg test]
      exact .refl s
  | revert c d =>
    have returned : s.OldRecords (s.applyRevert c d) := by
      refine .same ?_
      unfold State.applyRevert
      dsimp only
      split <;> rfl
    exact ((returned.trans (flushed _ c)).trans (ended _ c _)).trans (State.formCapacity_oldRecords _)

theorem State.applyEntry_oldRecords (s : State) {e : Entry} (changing : e.isRx = false) : s.OldRecords (s.applyEntry e) := by
  obtain ⟨_, erased⟩ := s.eraseEntries_shape (· == e)
  have first : s.OldRecords (s.eraseEntries (· == e)) := .same (by rw [erased])
  rw [State.applyEntry]
  cases change : e.change with
  | link c => exact first.trans (State.applyLink_oldRecords _ c)
  | txProfile u q =>
    exact first.trans ((State.formCapacity_oldRecords _).after rfl)
  | rxProfile u q => simp [Entry.isRx, change] at changing

theorem State.applyUpTo_oldRecords (h : Hsn) (n : Nat) (s : State) : s.OldRecords (State.applyUpTo h n s) := by
  induction n generalizing s with
  | zero => exact .refl s
  | succ n ih =>
    unfold State.applyUpTo
    split
    · rename_i e found
      obtain ⟨changing, -, -⟩ := Entry.dueAt_iff.1 (List.find?_some found)
      exact (s.applyEntry_oldRecords changing).trans (ih _)
    · exact .refl s

theorem State.applyDue_oldRecords (s : State) (h : Hsn) : s.OldRecords (s.applyDue h) := State.applyUpTo_oldRecords h _ s

end

end Sys2Proof.Machine
end

section
/-! SUPPORT. The answer of a frame request (R10, R16, R151, R152): what it leaves alone, and the frame that it sends. -/

namespace Sys2Proof.Machine

/-! ## What an answer leaves alone -/

/-- From `s` to `t` a request was answered: a message has left its queue, blocks were sent and staged, frames counted and handed out. A
unit out of service is given no block. -/
structure State.Answers (s t : State) : Prop where
  shape : ∃ c n m x o, t = { s with scu := c, cpm := { s.cpm with offered := n, traffic := m }, sched := x, out := s.out ++ o }
  queue : ∀ j, (s.scu.get j).queue = [] → (t.scu.get j).queue = []
  held : ∀ d, s.inService d = false → (s.sched.staging.get d).held = 0 → (t.sched.staging.get d).held = 0

section
variable {began : Four LinkState} {s t v : State} {k : CarrierId} {u : UnitId} {h : Hsn} {f : FrameNo}

theorem State.Answers.trans (a : s.Answers t) (b : t.Answers v) : s.Answers v where
  shape := by
    obtain ⟨_, _, _, _, o, rfl⟩ := a.shape
    obtain ⟨c, n, m, x, o', rfl⟩ := b.shape
    exact ⟨c, n, m, x, o ++ o', by simp⟩
  queue j empty := b.queue j (a.queue j empty)
  held d out bare := by
    refine b.held d ?_ (a.held d out bare)
    obtain ⟨_, _, _, _, _, rfl⟩ := a.shape
    exact out

/-- A step that changes the scheduler alone. -/
theorem State.OnlySched.answers (only : s.OnlySched t)
    (held : ∀ d, s.inService d = false → (s.sched.staging.get d).held = 0 → (t.sched.staging.get d).held = 0) : s.Answers t where
  shape := by
    obtain ⟨x, rfl⟩ := only
    exact ⟨s.scu, s.cpm.offered, s.cpm.traffic, x, [], by simp⟩
  queue j empty := by
    obtain ⟨x, rfl⟩ := only
    exact empty
  held := held

theorem State.Answers.refl (s : State) : s.Answers s := State.OnlySched.answers ⟨s.sched, rfl⟩ fun _ _ bare => bare

theorem State.Answers.plc (a : s.Answers t) : t.plc = s.plc := by
  obtain ⟨_, _, _, _, _, rfl⟩ := a.shape
  rfl

theorem State.Answers.rides (a : s.Answers t) : s.Rides began 0 t := by
  obtain ⟨⟨c, n, m, x, o, e⟩, queue, held⟩ := a
  have unit : ∀ d, s.cpm.acting.get d ≠ some .traffic → s.inService d = false := fun d idle => by
    simp [State.inService, State.actsTraffic, idle]
  refine
    { toKeepsHop := .same (by rw [e]) (by rw [e]) (by rw [e]) (by rw [e]) (by rw [e])
      hsn := by rw [e]
      clc := fun _ => .inl (by rw [e])
      queue := fun _ j _ empty => queue j empty
      level := by rw [e]
      effective := by rw [e]
      acting := by rw [e]
      substitutes := by rw [e]; rfl
      dwell := fun b young => by rwa [e]
      profile := by rw [e]
      draining := by rw [e]
      due := ⟨id, fun g => by rw [e, Entry.aged_id]⟩
      held := fun d idle _ bare => held d (unit d idle) bare
      raised := fun _ _ r => by rwa [e]
      out := fun _ mem => by rw [e]; exact List.mem_append_left _ mem }

/-! ## The frame -/

/-- The outputs of `t` are those of `s` and a frame of carrier `k` with `n` positions, under profile `q`, superframe `h`, frame `f`. -/
def State.Sends (s t : State) (k : CarrierId) (q : Nat) (h : Hsn) (f : FrameNo) (n : Nat) : Prop :=
  ∃ hdr m bs, t.out = s.out ++ [.frame k hdr m bs] ∧ hdr.profile = q ∧ hdr.hsn = h ∧ hdr.frame = f ∧ bs.length = n

theorem State.sendFrame_answers (s : State) (k : CarrierId) (q : Nat) (h : Hsn) (f : FrameNo) (bs : List (Option Block)) :
    s.Answers (s.sendFrame k q h f bs) ∧ s.Sends (s.sendFrame k q h f bs) k q h f bs.length ∧
      (s.sendFrame k q h f bs).sched = s.sched := by
  obtain ⟨c, filled, queue⟩ : ∃ c, (s.fillSlot k h f).2 = { s with scu := c } ∧
      ∀ j, (s.scu.get j).queue = [] → (c.get j).queue = [] := by
    unfold State.fillSlot
    split
    · exact ⟨s.scu, rfl, fun _ empty => empty⟩
    · split
      · rename_i m rest waits
        refine ⟨_, rfl, fun j empty => ?_⟩
        by_cases own : j = k
        · rw [own, waits] at empty
          cases empty
        · rwa [Four.get_modify_of_ne _ _ own]
      · exact ⟨s.scu, rfl, fun _ empty => empty⟩
  unfold State.sendFrame
  dsimp only
  rw [filled]
  exact ⟨⟨⟨c, s.cpm.offered, s.cpm.traffic, s.sched, _, rfl⟩, queue, fun _ _ bare => bare⟩, ⟨_, _, _, rfl, rfl, rfl, rfl, rfl⟩, rfl⟩

theorem State.countFrame_answers (s : State) (u : UnitId) (n m : Nat) : s.Answers (s.countFrame u n m) :=
  ⟨⟨s.scu, _, _, s.sched, [], by simp only [List.append_nil]; rfl⟩, fun _ empty => empty, fun _ _ bare => bare⟩

theorem padFrame_length {n : Nat} {bs : List Block} (few : bs.length ≤ n) : (padFrame n bs).length = n := by
  simp only [padFrame, List.length_append, List.length_map, List.length_replicate]
  omega

/-! ## The blocks taken (R151) -/

theorem Sched.sendBlocks_spares (d : UnitId) (x : Sched) (bs : List Block) : x.Spares d (x.sendBlocks bs) := by
  have frag : ∀ (t : TenantId) (l : LaneIx) (y : Sched) (g : Frag), y.Spares d (Sched.sendFrag t l y g) := fun t l y g => by
    have sent := Sched.setLane_keeps d y t l (f := fun z => { z with
      queue := z.queue.map fun p => if p.id == g.pkt then { p with sent := p.sent + g.len } else p }) fun _ => rfl
    unfold Sched.sendFrag
    dsimp only
    split
    · split
      · exact sent.trans (Sched.removePacket_spares d _ t l _)
      · exact sent
    · exact sent
  exact Sched.foldl_spares (fun y b _ => Sched.foldl_spares (fun z g _ => frag b.tenant b.lane z g) y) x

theorem Sched.takeHead_length (x : Sched) (u : UnitId) (n : Nat) : (x.takeHead u n).1.length ≤ n := by
  simp only [Sched.takeHead, List.length_append, List.length_take]
  omega

/-- A staging without blocks has none to take, and no staging gains one (R144, R151). -/
theorem Sched.takeHead_bare {x : Sched} {d : UnitId} (bare : (x.staging.get d).held = 0) (u : UnitId) (n : Nat) :
    ((x.takeHead u n).2.staging.get d).held = 0 ∧ (d = u → (x.takeHead u n).1 = []) := by
  by_cases own : d = u
  · subst own
    simp only [Staging.held, Nat.add_eq_zero_iff, List.length_eq_zero_iff] at bare
    obtain ⟨⟨assured, other⟩, record⟩ := bare
    have kept : (Staging.recordBlocks { (x.staging.get d) with assured := [], other := [] }) = [] := record
    simp [Sched.takeHead, assured, other, Staging.held, kept]
  · refine ⟨?_, fun same => absurd same own⟩
    simp only [Sched.takeHead]
    rwa [Four.get_set_of_ne _ _ own]

theorem State.takeBlocks_answers (s : State) (u : UnitId) (n : Nat) : s.Answers (s.takeBlocks u n).2 ∧ (s.takeBlocks u n).1.length ≤ n :=
  ⟨⟨⟨s.scu, _, _, _, [], by simp only [List.append_nil]; rfl⟩, fun _ empty => empty, fun d _ bare =>
    (Sched.sendBlocks_spares d _ _).held (Sched.takeHead_bare bare u n).1⟩, s.sched.takeHead_length u n⟩

/-! ## A unit of one carrier (R151) -/

theorem State.serveSingle_answers (s : State) (k : CarrierId) (u : UnitId) (h : Hsn) (f : FrameNo) :
    s.Answers (s.serveSingle k u h f) ∧
      s.Sends (s.serveSingle k u h f) k (s.plc.txProfile.get u) h f (s.settings.blocks (s.plc.txProfile.get u)) := by
  unfold State.serveSingle
  dsimp only
  split
  · obtain ⟨taken, few⟩ := s.takeBlocks_answers u (s.settings.blocks (s.plc.txProfile.get u))
    obtain ⟨answers, sends, -⟩ := State.sendFrame_answers (s.takeBlocks u (s.settings.blocks (s.plc.txProfile.get u))).2 k
      (s.plc.txProfile.get u) h f (padFrame (s.settings.blocks (s.plc.txProfile.get u)) (s.takeBlocks u _).1)
    rw [padFrame_length few] at sends
    exact ⟨taken.trans answers, sends⟩
  · obtain ⟨answers, sends, -⟩ := State.sendFrame_answers (s.countFrame u (s.settings.blocks (s.plc.txProfile.get u)) 0) k
      (s.plc.txProfile.get u) h f (padFrame (s.settings.blocks (s.plc.txProfile.get u)) [])
    rw [padFrame_length (Nat.zero_le _)] at sends
    exact ⟨(s.countFrame_answers u _ 0).trans answers, sends⟩

/-! ## A mirror pair (R152) -/

/-- The blocks of a frame without traffic are none. -/
theorem padFrame_nil_blocks (n : Nat) : (padFrame n []).filterMap id = [] := by
  simp [padFrame]

theorem State.setRecord_held {d : UnitId} {r : PairRecord} (none' : d = u → r.blocks.filterMap id = [])
    (bare : (s.sched.staging.get d).held = 0) : ((s.setRecord u r).sched.staging.get d).held = 0 := by
  simp only [State.setRecord, Four.get_modify]
  split
  · rename_i own
    simp only [Staging.held, Nat.add_eq_zero_iff, List.length_eq_zero_iff] at bare ⊢
    exact ⟨bare.1, none' own⟩
  · exact bare

theorem State.closeIfTaken_answers (s : State) (u : UnitId) : s.Answers (s.closeIfTaken u) := by
  refine (s.closeIfTaken_only u).answers fun d _ bare => ?_
  unfold State.closeIfTaken
  split
  · split
    · exact (s.sched.closeRecord_spares d u).held bare
    · exact bare
  · exact bare

theorem State.closeIfTaken_out (s : State) (u : UnitId) : (s.closeIfTaken u).out = s.out := by
  obtain ⟨_, e⟩ := s.closeIfTaken_only u
  rw [e]

theorem State.assignRecord_answers (s : State) (k : CarrierId) (u : UnitId) (h : Hsn) (f : FrameNo) :
    s.Answers (s.assignRecord k u h f) ∧
      s.Sends (s.assignRecord k u h f) k (s.plc.txProfile.get u) h f (s.settings.blocks (s.plc.txProfile.get u)) := by
  let q := s.plc.txProfile.get u
  let n := s.settings.blocks q
  let y := (s.takeBlocks u n).2.setRecord u ⟨h, f, q, padFrame n (s.takeBlocks u n).1, [k]⟩
  obtain ⟨taken, few⟩ := s.takeBlocks_answers u n
  have recorded : s.Answers y := by
    obtain ⟨c, a, b, x, o, e⟩ := taken.shape
    refine ⟨⟨c, a, b, y.sched, o, ?_⟩, fun j empty => taken.queue j empty, fun d out bare => ?_⟩
    · show ({ (s.takeBlocks u n).2 with sched := y.sched } : State) = _
      rw [e]
    · refine State.setRecord_held (fun own => ?_) (taken.held d out bare)
      have none' : (s.takeBlocks u n).1 = [] := (Sched.takeHead_bare bare u n).2 own
      rw [none']
      exact padFrame_nil_blocks n
  obtain ⟨answers, sends, -⟩ := y.sendFrame_answers k q h f (padFrame n (s.takeBlocks u n).1)
  rw [padFrame_length few] at sends
  refine ⟨(recorded.trans answers).trans (State.closeIfTaken_answers _ u), ?_⟩
  obtain ⟨hdr, m, bs, out, fields⟩ := sends
  refine ⟨hdr, m, bs, ?_, fields⟩
  rw [State.assignRecord]
  exact (State.closeIfTaken_out _ u).trans out

theorem State.closeOther_answers (s : State) (u : UnitId) (h : Hsn) (f : FrameNo) : s.Answers (s.closeOther u h f) ∧
    (s.closeOther u h f).out = s.out ∧ ((∀ r, (s.sched.staging.get u).record = some r → ¬(r.hsn = h ∧ r.frame = f)) →
      ((s.closeOther u h f).sched.staging.get u).record = none) := by
  unfold State.closeOther
  split
  · rename_i r record
    split
    · rename_i same
      exact ⟨.refl s, rfl, fun other => absurd same (other r record)⟩
    · refine ⟨State.OnlySched.answers ⟨_, rfl⟩ fun d _ bare => (s.sched.closeRecord_spares d u).held bare, rfl, fun _ => ?_⟩
      simp [Sched.closeRecord]
  · rename_i none'
    exact ⟨.refl s, rfl, fun _ => none'⟩

theorem State.servePair_answers (s : State) (k : CarrierId) (u : UnitId) (h : Hsn) (f : FrameNo) :
    s.Answers (s.servePair k u h f) ∧ ((∀ r, (s.sched.staging.get u).record = some r → ¬(r.hsn = h ∧ r.frame = f)) →
      s.Sends (s.servePair k u h f) k (s.plc.txProfile.get u) h f (s.settings.blocks (s.plc.txProfile.get u))) := by
  obtain ⟨closed, out, opens⟩ := s.closeOther_answers u h f
  have plc := closed.plc
  have settings : (s.closeOther u h f).settings = s.settings := (closed.rides (began := .of .down)).settings
  unfold State.servePair
  dsimp only
  generalize s.closeOther u h f = y at closed out opens plc settings ⊢
  rw [← plc, ← settings, State.Sends, ← out]
  split
  · split
    · rename_i r record
      have taken : y.Answers (y.setRecord u (r.take k)) := State.OnlySched.answers ⟨_, rfl⟩ fun d _ bare => by
        refine State.setRecord_held (fun own => ?_) bare
        have blocks : (r.take k).blocks = r.blocks := by
          unfold PairRecord.take
          split <;> rfl
        simp only [Staging.held, Nat.add_eq_zero_iff, List.length_eq_zero_iff, own, Staging.recordBlocks, record] at bare
        rw [blocks]
        exact bare.2
      obtain ⟨answers, -, -⟩ := (y.setRecord u (r.take k)).sendFrame_answers k r.profile h f r.blocks
      exact ⟨((closed.trans taken).trans answers).trans (State.closeIfTaken_answers _ u), fun other => by simp [opens other] at record⟩
    · obtain ⟨answers, sends⟩ := y.assignRecord_answers k u h f
      exact ⟨closed.trans answers, fun _ => sends⟩
  · have idle : y.Answers (if y.countsIdle k u then y.countFrame u (y.settings.blocks (y.plc.txProfile.get u)) 0 else y) ∧
        (if y.countsIdle k u then y.countFrame u (y.settings.blocks (y.plc.txProfile.get u)) 0 else y).out = y.out := by
      split
      · exact ⟨y.countFrame_answers u _ 0, rfl⟩
      · exact ⟨.refl y, rfl⟩
    obtain ⟨counted, same⟩ := idle
    obtain ⟨answers, sends, -⟩ := State.sendFrame_answers
      (if y.countsIdle k u then y.countFrame u (y.settings.blocks (y.plc.txProfile.get u)) 0 else y) k (y.plc.txProfile.get u) h f
      (padFrame (y.settings.blocks (y.plc.txProfile.get u)) [])
    rw [padFrame_length (Nat.zero_le _), State.Sends, same] at sends
    exact ⟨(closed.trans counted).trans answers, fun _ => sends⟩

/-! ## The request (R27, R29, R151) -/

theorem State.refill_answers (s : State) : s.Answers s.refill :=
  s.refill_only.answers fun d out bare =>
    (Sched.refill_spares (env := s.env) (by simp only [State.env, Four.get_build, out]) s.sched).held bare

theorem State.answerRequest_answers (s : State) (k : CarrierId) (h : Hsn) (f : FrameNo) : s.Answers (s.answerRequest k h f) := by
  unfold State.answerRequest
  split
  · unfold State.serveLocked
    split
    · rename_i u _
      refine .trans ?_ (State.refill_answers _)
      split
      · exact (s.servePair_answers k u h f).1
      · exact (s.serveSingle_answers k u h f).1
    · exact .refl s
  · exact (s.sendFrame_answers k 0 h f _).1
  all_goals exact .refl s

/-- A carrier in ACQUIRE is answered with a training frame, which leaves the scheduler alone (R27). -/
theorem State.answerRequest_trains (link : s.link k = .acquire) : s.Sends (s.answerRequest k h f) k 0 h f (s.settings.blocks 0) ∧
    (s.answerRequest k h f).sched = s.sched := by
  have trains : s.answerRequest k h f = s.sendFrame k 0 h f (padFrame (s.settings.blocks 0) []) := by
    rw [State.answerRequest, link]
    rfl
  obtain ⟨-, sends, sched⟩ := s.sendFrame_answers k 0 h f (padFrame (s.settings.blocks 0) [])
  rw [padFrame_length (Nat.zero_le _)] at sends
  rw [trains]
  exact ⟨sends, sched⟩

/-- A LOCKED carrier is answered at its unit's transmit profile, but for the frame of a pair frame record (R151, R152). -/
theorem State.answerRequest_serves (link : s.link k = .locked) (unit : s.unitOf k = some u)
    (other : ∀ r, (s.sched.staging.get u).record = some r → ¬(r.hsn = h ∧ r.frame = f)) :
    s.Sends (s.answerRequest k h f) k (s.plc.txProfile.get u) h f (s.settings.blocks (s.plc.txProfile.get u)) := by
  have serves : s.answerRequest k h f = (if s.isPair u then s.servePair k u h f else s.serveSingle k u h f).refill := by
    rw [State.answerRequest, link]
    show s.serveLocked k h f = _
    rw [State.serveLocked, unit]
  rw [serves]
  show s.Sends (if s.isPair u then s.servePair k u h f else s.serveSingle k u h f) k _ h f _
  split
  · exact (s.servePair_answers k u h f).2 other
  · exact (s.serveSingle_answers k u h f).2

end

end Sys2Proof.Machine
end

section
/-! SUPPORT. The apply of due entries at a frame request (R80, R96, R97, R140, R143, R151). -/

namespace Sys2Proof.Machine

section
variable {s t : State} {k : CarrierId} {u : UnitId} {h : Hsn} {f : FrameNo}

/-! ## An applied TX_PROFILE entry (R80, R97, R140) -/

/-- The part without entry `e`, profile `q` in force for unit `u` and PLAN raised, before C is formed (R80, R97, R103). -/
def State.txEntered (s : State) (e : Entry) (u : UnitId) (q : Nat) : State :=
  { s with
    plc := { s.plc with plan := s.plc.plan.filter (· ≠ e), txProfile := s.plc.txProfile.set u q }
    links := s.links.map (·.raise flagPlan) }

theorem State.applyEntry_tx {e : Entry} {q : Nat} (mem : e ∈ s.plc.plan) (change : e.change = .txProfile u q) :
    s.applyEntry e = (s.txEntered e u q).formCapacity := by
  have any : (s.plc.plan.filter (· == e)).any Entry.capacityChanging = true :=
    List.any_eq_true.2 ⟨e, List.mem_filter.2 ⟨mem, beq_self_eq_true e⟩, by simp [Entry.capacityChanging, Entry.isRx, change]⟩
  have others : (s.plc.plan.filter fun x => !(x == e)) = s.plc.plan.filter (· ≠ e) :=
    List.filter_congr fun x _ => by rw [Bool.eq_iff_iff]; simp
  have erased : s.eraseEntries (· == e) = { s with
      plc := { s.plc with plan := s.plc.plan.filter (· ≠ e) }, links := s.links.map (·.raise flagPlan) } := by
    rw [State.eraseEntries, State.planFlag, if_pos any, ← others]
    rfl
  rw [State.applyEntry, change, erased]
  rfl

/-- PLAN has been raised, and C formed afresh: CAPACITY where it has changed (R103, R140, R143, R192). -/
theorem State.raised_formCapacity {y : State} (settled : s.settled) (links : y.links = s.links.map (·.raise flagPlan))
    (capacity : y.sched.capacity = s.sched.capacity) (formed : t.links = y.formCapacity.links) (now : t.hopCapacity = y.capacityNow)
    (rxa : t.rxa = s.rxa) : s.Raised (flagPlan ||| s.capacityFlag t) t.startTransmitters := by
  have quiet := (State.settled_iff s).1 settled
  intro j
  rw [State.startTransmitters_links, Four.get_build, rxa, formed, State.formCapacity, State.capacityFlag, now]
  dsimp only
  by_cases same : y.capacityNow = y.sched.capacity
  · rw [if_pos same, if_pos (same.trans capacity), links, Four.get_map]
    exact ((s.links.get j).notified_raise flagPlan).raisedOnly (by decide) (quiet j)
  · rw [if_neg same, if_neg fun eq => same (eq.trans capacity.symm)]
    rw [State.raiseAll_links, Four.get_map]
    show (s.links.get j).RaisedOnly _ (startTransmitter _ ((y.links.get j).raise flagCapacity))
    rw [links, Four.get_map]
    exact (Tli.notified_raise_raise (s.links.get j) (by decide)).raisedOnly (by decide) (quiet j)

theorem State.formCapacity_follows {y : State} (sched : y.sched = s.sched) (formed : t.sched = y.formCapacity.sched)
    (now : t.hopCapacity = y.capacityNow) : s.CapacityFollows t := by
  rw [State.CapacityFollows, formed, State.formCapacity_sched, now, sched, Sched.formed, rescale_eq]

/-! ## The request -/

theorem State.takeRequest_eq (s : State) (heard : s.link k = .acquire ∨ s.link k = .locked) :
    s.takeRequest k h f = (s.applyDue h).answerRequest k h f := by
  have costs : s.costs k = true := by
    obtain link | link := heard <;> simp [State.costs, link]
  rw [State.takeRequest, if_pos costs]

/-- What the first part of the statement says of the frame sent, for any frame of `k` among the outputs. -/
theorem State.Sends.mem {q n : Nat} (sends : s.Sends t k q h f n) : ∃ hdr m bs, .frame k hdr m bs ∈ t.out ∧ hdr.profile = q ∧
    hdr.hsn = h ∧ hdr.frame = f ∧ bs.length = n := by
  obtain ⟨hdr, m, bs, out, fields⟩ := sends
  exact ⟨hdr, m, bs, by rw [out]; exact List.mem_append_right _ (List.mem_singleton_self _), fields⟩

theorem State.Answers.now (a : s.Answers t) : t.capacityNow = s.capacityNow := by
  obtain ⟨_, _, _, _, _, e⟩ := a.shape
  rw [e]
  rfl

/-- A TX_PROFILE entry applied alone, and the answer behind it (R80, R97, R140, R143, R151). -/
theorem State.applyEntry_tx_answers {e : Entry} {q : Nat} (settled : s.settled) (mem : e ∈ s.plc.plan) (change : e.change = .txProfile u q)
    (answers : (s.applyEntry e).Answers t) :
    (t.links = (s.applyEntry e).links ∧ t.sched = (s.applyEntry e).sched →
      s.CapacityFollows t.startTransmitters ∧ s.Raised (flagPlan ||| s.capacityFlag t) t.startTransmitters) ∧
    t.plc = { s.plc with plan := s.plc.plan.filter (· ≠ e), txProfile := s.plc.txProfile.set u q } := by
  have plc := answers.plc
  have now : t.hopCapacity = (s.txEntered e u q).capacityNow := by
    rw [← State.capacityNow_eq, answers.now, State.applyEntry_tx mem change, State.formCapacity_now]
  obtain ⟨_, _, _, _, _, shape⟩ := answers.shape
  rw [State.applyEntry_tx mem change] at plc shape ⊢
  obtain ⟨_, _, formed⟩ := (s.txEntered e u q).formCapacity_only
  refine ⟨fun ⟨links, sched⟩ => ⟨?_, ?_⟩, by rw [plc, formed]; rfl⟩
  · exact State.formCapacity_follows (y := s.txEntered e u q) rfl sched now
  · exact State.raised_formCapacity (y := s.txEntered e u q) settled rfl rfl links now (by rw [shape, formed]; rfl)

theorem State.applyEntry_tx_shape {e : Entry} {q : Nat} (mem : e ∈ s.plc.plan) (change : e.change = .txProfile u q) :
    ∃ n l, s.applyEntry e = { s with
      plc := { s.plc with plan := s.plc.plan.filter (· ≠ e), txProfile := s.plc.txProfile.set u q }
      sched := s.sched.formed n, links := l } := by
  obtain ⟨l, formed⟩ := (s.txEntered e u q).formCapacity_shape
  exact ⟨_, l, (State.applyEntry_tx mem change).trans formed⟩

/-- The training frame behind the apply leaves links and scheduler as the apply did (R27, R97). -/
theorem State.applyEntry_tx_trains {e : Entry} {q : Nat} (mem : e ∈ s.plc.plan) (change : e.change = .txProfile u q)
    (link : s.link k = .acquire) : ((s.applyEntry e).answerRequest k h f).links = (s.applyEntry e).links ∧
      ((s.applyEntry e).answerRequest k h f).sched = (s.applyEntry e).sched := by
  obtain ⟨_, _, _, _, _, shape⟩ := ((s.applyEntry e).answerRequest_answers k h f).shape
  obtain ⟨_, _, applied⟩ := State.applyEntry_tx_shape mem change
  exact ⟨by rw [shape], (State.answerRequest_trains (by rw [applied]; exact link)).2⟩

/-- The frame behind the apply is sent at the new profile (R80, R151). -/
theorem State.applyEntry_tx_serves {e : Entry} {q : Nat} (mem : e ∈ s.plc.plan) (change : e.change = .txProfile u q)
    (link : s.link k = .locked) (unit : s.unitOf k = some u)
    (other : ∀ r, (s.sched.staging.get u).record = some r → ¬(r.hsn = h ∧ r.frame = f)) :
    s.Sends ((s.applyEntry e).answerRequest k h f) k q h f (s.settings.blocks q) := by
  obtain ⟨n, l, applied⟩ := State.applyEntry_tx_shape mem change
  rw [applied]
  have sends := State.answerRequest_serves (s := { s with
      plc := { s.plc with plan := s.plc.plan.filter (· ≠ e), txProfile := s.plc.txProfile.set u q }
      sched := s.sched.formed n, links := l }) (h := h) (f := f) link unit other
  rwa [Four.get_set_self] at sends

end

/-- Settles O28: the entries of the superframe are applied before the answer, which leaves plan, controllers and roles as they are; the
frame is then sent under the profile in force. -/
theorem requestAppliesTheProfileEntry : Obligations.RequestAppliesTheProfileEntry := by
  refine ⟨fun k h f s ⟨running, settled⟩ heard anchored => ?_,
    fun k h f e s ⟨running, settled⟩ heard anchored mem rx agreed target sole => ?_⟩
  all_goals
    refine completes_event (f := fun s => s.takeRequest k h f) rfl running ?_
    rw [State.takeRequest_eq { s with out := [] } heard]
    have answers := (({ s with out := [] } : State).applyDue h).answerRequest_answers k h f
    have hop := ({ s with out := [] } : State).applyDue_keepsHop h
  · have records := ({ s with out := [] } : State).applyDue_oldRecords h
    have none' := ({ s with out := [] } : State).applyDue_noneDue h
    have rides := answers.rides (began := .of .down)
    generalize ({ s with out := [] } : State).applyDue h = x at answers hop records none' rides ⊢
    have settings : x.settings = s.settings := hop.settings
    refine ⟨rides.toKeepsTargets.noneDue none', fun acquire => ?_, fun locked u unit other => ?_⟩
    · obtain ⟨sends, -⟩ := State.answerRequest_trains (h := h) (f := f) ((rides.link k).symm.trans acquire)
      rw [settings] at sends
      exact sends.mem
    · have sends := State.answerRequest_serves (h := h) (f := f) ((rides.link k).symm.trans locked)
        ((State.unitOf_congr settings k).trans unit) fun r record => other r (records.sched.old u r record)
      rw [settings] at sends
      show ∃ hdr m bs, .frame k hdr m bs ∈ (x.answerRequest k h f).out ∧ hdr.profile = (x.answerRequest k h f).plc.txProfile.get u ∧
        hdr.hsn = h ∧ hdr.frame = f ∧ bs.length = s.settings.blocks ((x.answerRequest k h f).plc.txProfile.get u)
      rw [answers.plc]
      exact sends.mem
  · have alone : ({ s with out := [] } : State).DueAlone h e :=
      ⟨mem, Entry.dueAt_iff.2 ⟨rx, agreed, target⟩, fun x here dueX => by
        obtain ⟨rxX, agreedX, targetX⟩ := Entry.dueAt_iff.1 dueX
        exact sole x here rxX agreedX targetX⟩
    have applied := State.applyEntry_applied (s := { s with out := [] }) anchored mem rx
    have rides := answers.rides (began := s.clc.map Clc.link)
    have start : ∀ j, (s.clc.map Clc.link).get j = ({ s with out := [] } : State).link j := fun j => Four.get_map s.clc Clc.link j
    obtain ⟨behind, -⟩ := hop.anchor anchored
    rw [State.applyDue_one alone] at answers rides behind ⊢
    refine ⟨fun j => ?_, fun u q change => ?_, fun j same => ?_, fun j same => ?_, fun c d same => ?_, fun c d same => ?_⟩
    · exact (State.startTransmitters_notifies _).keeps (rides.raised j _ (applied.plan j))
    · obtain ⟨follows, plc⟩ := State.applyEntry_tx_answers (s := { s with out := [] }) (t := State.answerRequest _ k h f)
        ((State.settled_iff _).2 ((State.settled_iff s).1 settled)) mem change answers
      exact ⟨fun acquire _ => follows (State.applyEntry_tx_trains (s := { s with out := [] }) mem change acquire), plc,
        fun locked unit other => State.applyEntry_tx_serves (s := { s with out := [] }) mem change locked unit other⟩
    · exact rides.parkAfter behind (start j) (applied.park j same)
    · exact rides.wakeAfter (start j) (applied.wake j same)
    · exact rides.promoteAfter (s := { s with out := [] }) (Nat.zero_le 1) applied.draining (applied.promote c d same)
    · exact rides.revertAfter (applied.revert c d same)

end Sys2Proof.Machine
end

section
/-! SUPPORT. What a refill does to the lanes (R145–R149, R166–R168): a lane from which packets are staged has less left to stage and its
stall timer at 0; any other stands as it was. -/

namespace Sys2Proof.Machine

/-! ## A lane -/

/-- How far the bytes that a packet counts as staged are from all of them. -/
def Packet.left (p : Packet) : Nat := (p.length - p.staged) + (p.staged - p.length)

/-- What the packets of a lane have left to stage. -/
def Lane.left (z : Lane) : Nat := (z.queue.map Packet.left).sum

/-- Every packet of the lane is staged whole. -/
def Lane.spent (z : Lane) : Prop := ∀ p ∈ z.queue, p.staged = p.data.length

/-- What of a lane no staging has touched. -/
structure Lane.Untouched (z y : Lane) : Prop where
  queue : y.queue = z.queue
  timer : y.timer = z.timer
  emptyMark : y.emptyMark = z.emptyMark
  bound : y.bound = z.bound
  written : y.written = z.written

/-- A lane in a refill: packets of it were staged, or none was (R149, R168). -/
structure Lane.Takes (z y : Lane) : Prop where
  ids : y.queue.map Packet.id = z.queue.map Packet.id
  staged : z.Untouched y ∨ (y.left < z.left ∧ y.timer = 0)

section
variable {z y w : Lane}

theorem Lane.Untouched.refl (z : Lane) : z.Untouched z := ⟨rfl, rfl, rfl, rfl, rfl⟩

theorem Lane.Untouched.trans (h : z.Untouched y) (k : y.Untouched w) : z.Untouched w :=
  ⟨k.queue.trans h.queue, k.timer.trans h.timer, k.emptyMark.trans h.emptyMark, k.bound.trans h.bound, k.written.trans h.written⟩

theorem Lane.Untouched.left (h : z.Untouched y) : y.left = z.left := by rw [Lane.left, h.queue, Lane.left]

theorem Lane.Untouched.governing (h : z.Untouched y) : y.governing = z.governing := by
  rw [Lane.governing, h.bound, h.written, Lane.governing]

theorem Lane.Untouched.takes (h : z.Untouched y) : z.Takes y := ⟨by rw [h.queue], .inl h⟩

theorem Lane.Takes.refl (z : Lane) : z.Takes z := (Lane.Untouched.refl z).takes

theorem Lane.Takes.left (h : z.Takes y) : y.left ≤ z.left :=
  h.staged.elim (fun same => same.left.le) fun less => less.1.le

theorem Lane.Takes.trans (h : z.Takes y) (k : y.Takes w) : z.Takes w where
  ids := k.ids.trans h.ids
  staged := by
    obtain same | ⟨less, zero⟩ := k.staged
    · obtain same' | ⟨less, zero⟩ := h.staged
      · exact .inl (same'.trans same)
      · exact .inr ⟨by rw [same.left]; exact less, same.timer.trans zero⟩
    · exact .inr ⟨Nat.lt_of_lt_of_le less h.left, zero⟩

theorem Lane.spent_left (spent : z.spent) : z.left = 0 := by
  refine List.sum_eq_zero fun n mem => ?_
  obtain ⟨p, queued, rfl⟩ := List.mem_map.1 mem
  simp [Packet.left, Packet.length, spent p queued]

/-- Nothing is staged from a lane with nothing to stage. -/
theorem Lane.Takes.of_spent (h : z.Takes y) (spent : z.spent) : z.Untouched y :=
  h.staged.resolve_right fun less => by
    have none' := Lane.spent_left spent
    omega

end

/-! ## The scheduler -/

/-- The packets of every lane have numbers of their own. -/
def Sched.Unique (x : Sched) : Prop := ∀ t l, ((x.lane t l).queue.map Packet.id).Nodup

/-- Packets may have been staged; the blocks staged of a lane with nothing to stage are as before. -/
structure Sched.KeepsLanes (x y : Sched) : Prop where
  lane : ∀ t l, (x.lane t l).Takes (y.lane t l)
  holds : ∀ t l, (x.lane t l).spent → ∀ u, (y.staging.get u).holdsLane t l = (x.staging.get u).holdsLane t l

/-- The same of a refill, with what it keeps of the credits. -/
structure Sched.Staged (x y : Sched) : Prop extends Sched.KeepsLanes x y where
  credit : ∀ t, y.credit.get t ≤ x.credit.get t
  exact : ∀ t, (∀ l, (x.lane t l).spent) → y.credit.get t = x.credit.get t
  renewal : y.renewal = x.renewal

/-- The same where packets have numbers of their own. -/
structure Sched.Refills (x y : Sched) : Prop where
  staged : x.Unique → x.Staged y

section
variable {x y z : Sched}

theorem Sched.KeepsLanes.unique (h : x.KeepsLanes y) (unique : x.Unique) : y.Unique := fun t l => by
  rw [(h.lane t l).ids]
  exact unique t l

theorem Sched.KeepsLanes.spent (h : x.KeepsLanes y) {t : TenantId} {l : LaneIx} (spent : (x.lane t l).spent) : (y.lane t l).spent := by
  have same := (h.lane t l).of_spent spent
  unfold Lane.spent
  rw [same.queue]
  exact spent

theorem Sched.KeepsLanes.trans (h : x.KeepsLanes y) (k : y.KeepsLanes z) : x.KeepsLanes z where
  lane t l := (h.lane t l).trans (k.lane t l)
  holds t l spent u := (k.holds t l (h.spent spent) u).trans (h.holds t l spent u)

theorem Sched.KeepsLanes.same (lanes : y.lanes = x.lanes) (staging : y.staging = x.staging) : x.KeepsLanes y :=
  ⟨fun t l => by rw [Sched.lane, Sched.lane, lanes]; exact .refl _, fun _ _ _ _ => by rw [staging]⟩

theorem Sched.Staged.trans (h : x.Staged y) (k : y.Staged z) : x.Staged z where
  toKeepsLanes := h.toKeepsLanes.trans k.toKeepsLanes
  credit t := (k.credit t).trans (h.credit t)
  exact t spent := (k.exact t fun l => h.spent (spent l)).trans (h.exact t spent)
  renewal := k.renewal.trans h.renewal

theorem Sched.Refills.trans (h : x.Refills y) (k : y.Refills z) : x.Refills z :=
  ⟨fun unique => (h.staged unique).trans (k.staged ((h.staged unique).unique unique))⟩

/-- A change of pointers alone. -/
theorem Sched.Refills.same (lanes : y.lanes = x.lanes) (staging : y.staging = x.staging) (credit : y.credit = x.credit)
    (renewal : y.renewal = x.renewal) : x.Refills y :=
  ⟨fun _ => ⟨.same lanes staging, fun _ => by rw [credit], fun _ _ => by rw [credit], renewal⟩⟩

theorem Sched.Refills.refl (x : Sched) : x.Refills x := .same rfl rfl rfl rfl

/-! ## A packet staged (R146, R148, R149, R166–R168) -/

theorem appendFragRev_any (t t' : TenantId) (l l' : LaneIx) (f : Frag) (bs : List Block) :
    (appendFragRev t l f bs).any (Block.ofLane t' l') = bs.any (Block.ofLane t' l') := by
  induction bs with
  | nil => rfl
  | cons b bs ih =>
    unfold appendFragRev
    split
    · rfl
    · rw [List.any_cons, ih, List.any_cons]

theorem newBlocks_ofLane {t : TenantId} {l : LaneIx} {id : Nat} {c : Phase} {n : Nat} {seq : Seq} {first : Bool} {data : List Byte} :
    ∀ b ∈ newBlocks t l id c n seq first data, b.tenant = t ∧ b.lane = l := by
  induction n generalizing seq first data with
  | zero => simp [newBlocks]
  | succ n ih =>
    unfold newBlocks
    split
    · simp
    · dsimp only
      intro b mem
      obtain rfl | later := List.mem_cons.1 mem
      · exact ⟨rfl, rfl⟩
      · exact ih b later

theorem newBlocks_nil (t : TenantId) (l : LaneIx) (id : Nat) (c : Phase) (n : Nat) (seq : Seq) (first : Bool) :
    newBlocks t l id c n seq first [] = [] := by
  cases n <;> rfl

/-- The blocks of a segment once a packet of lane (t, l) has been staged: those of other lanes are as before (R149). -/
theorem segment_any {t t' : TenantId} {l l' : LaneIx} (o : Option Nat) (f : Nat → Frag) (seg bs : List Block)
    (own : ∀ b ∈ bs, b.tenant = t ∧ b.lane = l) (apart : bs = [] ∨ ¬(t = t' ∧ l = l')) :
    ((match o with
      | some e => (appendFragRev t l (f e) seg.reverse).reverse
      | none => seg) ++ bs).any (Block.ofLane t' l') = seg.any (Block.ofLane t' l') := by
  have fresh : bs.any (Block.ofLane t' l') = false := by
    obtain rfl | other := apart
    · rfl
    · refine List.any_eq_false.2 fun b mem lane => other ?_
      obtain ⟨rfl, rfl⟩ := own b mem
      simpa [Block.ofLane] using lane
  rw [List.any_append, fresh, Bool.or_false]
  split
  · rw [List.any_reverse, appendFragRev_any, List.any_reverse]
  · rfl

theorem Staging.setSegment_holdsLane {g : Staging} {c : LaneClass} {bs : List Block} {t : TenantId} {l : LaneIx}
    (same : bs.any (Block.ofLane t l) = (g.segment c).any (Block.ofLane t l)) : (g.setSegment c bs).holdsLane t l = g.holdsLane t l := by
  cases c <;> simp only [Staging.setSegment, Staging.holdsLane, Staging.segment] at same ⊢ <;> rw [same] <;> rfl

theorem Staging.setCont_holdsLane (g : Staging) (c : LaneClass) (k : Option Continuation) (t : TenantId) (l : LaneIx) :
    (g.setCont c k).holdsLane t l = g.holdsLane t l := by
  cases c <;> rfl

theorem Staging.served_holdsLane (g : Staging) (c : LaneClass) (served own : Bool) (k : Option Continuation) (t : TenantId) (l : LaneIx) :
    (if served then (if own then g.setCont c none else g) else g.setCont c k).holdsLane t l = g.holdsLane t l := by
  split
  · split
    · exact g.setCont_holdsLane c none t l
    · rfl
  · exact g.setCont_holdsLane c k t l

/-- The queue of a lane with `n` bytes of packet `p` staged. -/
def restaged (p : Packet) (n : Nat) (q : List Packet) : List Packet := q.map fun r => if r.id == p.id then { r with staged := n } else r

theorem restaged_ids (p : Packet) (n : Nat) (q : List Packet) : (restaged p n q).map Packet.id = q.map Packet.id := by
  rw [restaged, List.map_map]
  refine List.map_congr_left fun r _ => ?_
  simp only [Function.comp]
  split <;> rfl

section
variable {p : Packet} {q : List Packet} (unique : (q.map Packet.id).Nodup) (mem : p ∈ q)
include unique mem

theorem restaged_same : restaged p p.staged q = q := by
  have same : ∀ r ∈ q, (if r.id == p.id then { r with staged := p.staged } else r) = r := fun r queued => by
    split
    · rename_i id
      rw [List.inj_on_of_nodup_map unique queued mem (by simpa using id)]
    · rfl
  rw [restaged, List.map_congr_left same, List.map_id']

/-- A packet with fewer bytes left than before lowers what its lane has left. -/
theorem restaged_left {n : Nat} (less : ({ p with staged := n } : Packet).left < p.left) :
    ((restaged p n q).map Packet.left).sum < (q.map Packet.left).sum := by
  rw [restaged, List.map_map]
  refine List.sum_lt_sum _ _ (fun r queued => ?_) ⟨p, mem, by simpa using less⟩
  simp only [Function.comp]
  split
  · rename_i id
    rw [List.inj_on_of_nodup_map unique queued mem (by simpa using id)]
    exact less.le
  · exact le_rfl

end

/-- A lane once bytes of its packet `p` have been staged on unit `u`, up to `staged`, in `n` new blocks. -/
def Lane.restage (u : UnitId) (p : Packet) (staged n : Nat) (z : Lane) : Lane :=
  { z with
    queue := restaged p staged z.queue
    seq := z.seq + BitVec.ofNat 4 n
    timer := if staged != p.staged then 0 else z.timer
    emptyMark := if staged != p.staged then false else z.emptyMark
    bound := if staged != p.staged then (match z.bound with | some b => some b | none => some ⟨u, z.written⟩) else z.bound }

theorem Lane.restage_takes {z : Lane} (unique : (z.queue.map Packet.id).Nodup) {p : Packet} (mem : p ∈ z.queue) {m : Nat}
    (few : m ≤ p.length - p.staged) (u : UnitId) (n : Nat) : z.Takes (z.restage u p (p.length - m) n) := by
  refine ⟨restaged_ids p _ z.queue, ?_⟩
  by_cases touched : p.length - m = p.staged
  · refine .inl ⟨?_, ?_, ?_, ?_, rfl⟩
    · show restaged p (p.length - m) z.queue = z.queue
      rw [touched]
      exact restaged_same unique mem
    all_goals simp [Lane.restage, touched]
  · refine .inr ⟨restaged_left unique mem ?_, by simp [Lane.restage, touched]⟩
    simp only [Packet.left, Packet.length] at few touched ⊢
    omega

/-- The parts of a staging (R146, R149): `m` bytes of the packet are left over, and `n` blocks are new. -/
theorem Sched.stagePacket_parts (x : Sched) (u : UnitId) (t : TenantId) (l : LaneIx) (p : Packet) (c : Phase) :
    ∃ g m n, (x.stagePacket u t l p c).1 =
        (({ x with staging := x.staging.set u g } : Sched).setLane t l (Lane.restage u p (p.length - m) n)).charge t c n ∧
      m ≤ p.length - p.staged ∧ (p.staged = p.length → n = 0) ∧
      ∀ t' l', n = 0 ∨ ¬(t = t' ∧ l = l') → g.holdsLane t' l' = (x.staging.get u).holdsLane t' l' := by
  refine ⟨_, _, _, rfl, ?_, fun whole => ?_, fun t' l' apart => ?_⟩
  · simp only [List.length_drop, Packet.length]
    omega
  · have none' : p.data.drop p.staged = [] := List.drop_eq_nil_of_le (by simp [whole, Packet.length])
    rw [none', List.drop_nil, newBlocks_nil, List.length_nil]
  · refine (Staging.served_holdsLane _ _ _ _ _ t' l').trans (Staging.setSegment_holdsLane ?_)
    exact segment_any _ _ _ _ newBlocks_ofLane (apart.imp_left List.length_eq_zero_iff.1)

theorem Sched.charge_credit (x : Sched) (t j : TenantId) (c : Phase) (n : Nat) :
    (x.charge t c n).credit.get j ≤ x.credit.get j ∧ (t ≠ j ∨ n = 0 → (x.charge t c n).credit.get j = x.credit.get j) := by
  have charged : (x.credit.modify t (· - n)).get j ≤ x.credit.get j ∧
      (t ≠ j ∨ n = 0 → (x.credit.modify t (· - n)).get j = x.credit.get j) := by
    rw [Four.get_modify]
    split
    · rename_i own
      exact ⟨by omega, fun h => h.elim (fun other => absurd own.symm other) fun zero => by simp [zero, own]⟩
    · exact ⟨le_rfl, fun _ => rfl⟩
  cases c with
  | committedAssured => exact charged
  | committedElastic => exact charged
  | excess => exact ⟨le_rfl, fun _ => rfl⟩

/-- A packet of a lane is staged. -/
theorem Sched.stagePacket_refills {t : TenantId} {l : LaneIx} {p : Packet} (mem : p ∈ (x.lane t l).queue) (u : UnitId) (c : Phase) :
    x.Refills (x.stagePacket u t l p c).1 := by
  refine ⟨fun unique => ?_⟩
  obtain ⟨g, m, n, parts, few, whole, holds⟩ := x.stagePacket_parts u t l p c
  have lane : ∀ t' l', (x.stagePacket u t l p c).1.lane t' l' =
      if t' = t ∧ l' = l then (x.lane t l).restage u p (p.length - m) n else x.lane t' l' := fun t' l' => by
    rw [parts, ← Sched.lane_setLane]
    cases c <;> rfl
  have staging : (x.stagePacket u t l p c).1.staging = x.staging.set u g := by
    rw [parts]
    cases c <;> rfl
  refine ⟨⟨fun t' l' => ?_, fun t' l' spent v => ?_⟩, fun j => ?_, fun j spent => ?_, ?_⟩
  · rw [lane]
    split
    · rename_i own
      rw [own.1, own.2]
      exact Lane.restage_takes (unique t l) mem few u n
    · exact .refl _
  · rw [staging, Four.get_set]
    split
    · rename_i own
      rw [own]
      refine holds t' l' ?_
      by_cases same : t = t' ∧ l = l'
      · obtain ⟨rfl, rfl⟩ := same
        exact .inl (whole (spent p mem))
      · exact .inr same
    · rfl
  · rw [parts]
    exact (Sched.charge_credit _ t j c n).1
  · rw [parts]
    refine (Sched.charge_credit _ t j c n).2 ?_
    by_cases own : t = j
    · subst own
      exact .inr (whole (spent l p mem))
    · exact .inl own
  · rw [parts]
    cases c <;> rfl

/-! ## The refill (R145–R148) -/

theorem Sched.firstLane_mem {env : SchedEnv} {u : UnitId} {c : LaneClass} {t : TenantId} {l : LaneIx} {p : Packet}
    (first : x.firstLane env u c t = some (l, p)) : p ∈ (x.lane t l).queue := by
  unfold Sched.firstLane at first
  split at first
  · obtain ⟨r, next, same⟩ := Option.map_eq_some_iff.1 first
    cases same
    exact List.mem_of_find?_eq_some next
  · cases first

theorem Sched.offer_mem {env : SchedEnv} {u : UnitId} {c : LaneClass} {ts : List TenantId} {t : TenantId} {l : LaneIx} {p : Packet}
    (offer : ts.findSome? (x.committedOffer env u c) = some (t, l, p)) : p ∈ (x.lane t l).queue := by
  obtain ⟨j, -, found⟩ := List.exists_of_findSome?_eq_some offer
  unfold Sched.committedOffer at found
  split at found
  · rename_i first
    split at found <;> cases found
    exact Sched.firstLane_mem first
  · cases found

theorem Sched.serveCont_refills (x : Sched) (v : UnitId) (c : LaneClass) : x.Refills (x.serveCont v c) := by
  unfold Sched.serveCont
  split
  · split
    · rename_i found
      exact Sched.stagePacket_refills (List.mem_of_find?_eq_some found) v _
    · exact .refl x
  · exact .refl x

theorem Sched.visit_refills (env : SchedEnv) (v : UnitId) (t : TenantId) (fuel : Nat) (cs : List LaneClass) (n : Nat) (x : Sched) :
    x.Refills (Sched.visit env v t fuel cs n x) := by
  induction fuel generalizing cs n x with
  | zero =>
    unfold Sched.visit
    exact .refl x
  | succ fuel ih =>
    cases cs with
    | nil =>
      unfold Sched.visit
      exact .refl x
    | cons c cs =>
      unfold Sched.visit
      split
      · exact ih cs n x
      · rename_i first
        split
        · have moved : ∀ y : Sched, ∀ l, y.Refills (y.advanceLane t c l) := fun _ _ => .same rfl rfl rfl rfl
          exact ((Sched.stagePacket_refills (Sched.firstLane_mem first) v _).trans (moved _ _)).trans (ih _ _ _)
        · exact .refl x

theorem Sched.pick_refills {env : SchedEnv} {v : UnitId} (h : x.pick env v = some y) : x.Refills y := by
  unfold Sched.pick at h
  split at h
  · rename_i assured
    cases h
    unfold Sched.pickAssured at assured
    split at assured <;> cases assured
    rename_i offer
    exact (Sched.stagePacket_refills (Sched.offer_mem offer) v _).trans (.same rfl rfl rfl rfl)
  · split at h
    · rename_i elastic
      cases h
      unfold Sched.pickElastic at elastic
      split at elastic <;> cases elastic
      rename_i offer
      exact (Sched.stagePacket_refills (Sched.offer_mem offer) v _).trans (.same rfl rfl rfl rfl)
    · unfold Sched.pickExcess at h
      split at h <;> cases h
      exact (Sched.visit_refills ..).trans (.same rfl rfl rfl rfl)

theorem Sched.picks_refills (env : SchedEnv) (v : UnitId) (fuel : Nat) (x : Sched) : x.Refills (Sched.picks env v fuel x) := by
  induction fuel generalizing x with
  | zero => exact .refl x
  | succ fuel ih =>
    unfold Sched.picks
    split
    · split
      · rename_i y picked
        exact (Sched.pick_refills picked).trans (ih y)
      · exact .refl x
    · exact .refl x

theorem Sched.refill_refills (env : SchedEnv) (x : Sched) : x.Refills (x.refill env) := by
  have unit : ∀ (x : Sched) (v : UnitId), x.Refills (x.refillUnit env v) := fun x v => by
    unfold Sched.refillUnit
    split
    · exact ((x.serveCont_refills v .assured).trans (Sched.serveCont_refills _ v .elastic)).trans (Sched.picks_refills ..)
    · exact .refl x
  unfold Sched.refill
  induction ids generalizing x with
  | nil => exact .refl x
  | cons v vs ih => exact (unit x v).trans (ih _)

end

end Sys2Proof.Machine
end

section
/-! SUPPORT. The plan and the scheduler in the parts of a boundary that are not their own (R71, R83, R92, R140, R143): entries stand, and
C alone is formed afresh. -/

namespace Sys2Proof.Machine

/-! ## Ages (R92) -/

/-- The age of an entry at the next boundary (R92). -/
def nextAge (a : Nat) : Nat := min (a + 1) 15

/-- An entry `n` boundaries on. -/
def Entry.agedBy (n : Nat) : Entry → Entry := Entry.aged nextAge^[n]

theorem Entry.agedBy_agedBy (n m : Nat) (e : Entry) : (e.agedBy n).agedBy m = e.agedBy (n + m) := by
  simp only [Entry.agedBy, Entry.aged, Nat.add_comm n m, Function.iterate_add_apply]

theorem Entry.agedBy_age (n : Nat) (e : Entry) : (e.agedBy n).age ≤ e.age + n := by
  show nextAge^[n] e.age ≤ e.age + n
  induction n generalizing e with
  | zero => exact le_rfl
  | succ n ih =>
    have next := ih { e with age := nextAge e.age }
    have step : nextAge e.age ≤ e.age + 1 := Nat.min_le_left _ _
    rw [Function.iterate_succ_apply]
    dsimp only at next
    omega

/-! ## The relations -/

/-- `n` boundaries of the Plan Controller lie between `s` and `t`: every entry has aged, unless a profile proposed for its unit has taken
its place; what is new is PROPOSED and young (R71, R83, R92). -/
structure State.Plans (n : Nat) (s t : State) : Prop where
  state : ∀ u, (t.ade.get u).state = (s.ade.get u).state ∨ (s.ade.get u).state = .steady
  stays : ∀ e ∈ s.plc.plan, e.agedBy n ∈ t.plc.plan ∨
    ∃ u, e.isRxOf u = true ∧ (s.ade.get u).state = .steady ∧ (t.ade.get u).state = .proposing
  origin : ∀ y ∈ t.plc.plan, (∃ e ∈ s.plc.plan, y = e.agedBy n) ∨ (y.state = .proposed ∧ y.age ≤ n)

/-- C has been formed afresh, credits lowered with it, and the scheduler is otherwise as it was (R140, R143). -/
structure State.Forms (s t : State) : Prop where
  sched : ∃ n c, t.sched = { s.sched with capacity := n, credit := c } ∧ ∀ j, c.get j ≤ s.sched.credit.get j
  backlog : t.cpm.backlog = s.cpm.backlog

/-- A part of a boundary that is neither the Plan Controller's nor the scheduler's nor the lanes' own. -/
structure State.Passes (s t : State) : Prop extends State.Plans 0 s t, State.Forms s t

section
variable {n m : Nat} {s t v : State}

theorem State.Plans.trans (h : s.Plans n t) (k : t.Plans m v) : s.Plans (n + m) v where
  state u := by
    obtain same | steady := k.state u
    · rw [same]
      exact h.state u
    · exact .inr ((h.state u).elim (fun same => same ▸ steady) id)
  stays e mem := by
    obtain old | ⟨u, rx, steady, proposing⟩ := h.stays e mem
    · obtain older | ⟨u, rx, steady, proposing⟩ := k.stays _ old
      · exact .inl (by rwa [← Entry.agedBy_agedBy])
      · exact .inr ⟨u, rx, (h.state u).elim (fun same => same ▸ steady) id, proposing⟩
    · refine .inr ⟨u, rx, steady, (k.state u).elim (fun same => same.trans proposing) fun steady' => ?_⟩
      cases steady'.symm.trans proposing
  origin y mem := by
    obtain ⟨e, old, rfl⟩ | ⟨proposed, young⟩ := k.origin y mem
    · obtain ⟨e', older, rfl⟩ | ⟨proposed, young⟩ := h.origin e old
      · exact .inl ⟨e', older, Entry.agedBy_agedBy n m e'⟩
      · exact .inr ⟨proposed, (e.agedBy_age m).trans (by omega)⟩
    · exact .inr ⟨proposed, by omega⟩

theorem State.Plans.same (ade : t.ade = s.ade) (plc : t.plc = s.plc) : s.Plans 0 t where
  state u := .inl (by rw [ade])
  stays e mem := .inl (by rwa [plc])
  origin y mem := .inl ⟨y, plc ▸ mem, rfl⟩

theorem State.Forms.same (sched : t.sched = s.sched) (backlog : t.cpm.backlog = s.cpm.backlog) : s.Forms t :=
  ⟨⟨s.sched.capacity, s.sched.credit, sched, fun _ => le_rfl⟩, backlog⟩

theorem State.Forms.trans (h : s.Forms t) (k : t.Forms v) : s.Forms v where
  sched := by
    obtain ⟨_, c, e, less⟩ := h.sched
    obtain ⟨n, c', e', less'⟩ := k.sched
    rw [e] at e' less'
    exact ⟨n, c', e', fun j => (less' j).trans (less j)⟩
  backlog := k.backlog.trans h.backlog

theorem State.Passes.same (ade : t.ade = s.ade) (plc : t.plc = s.plc) (sched : t.sched = s.sched)
    (backlog : t.cpm.backlog = s.cpm.backlog) : s.Passes t := ⟨.same ade plc, .same sched backlog⟩

theorem State.Passes.refl (s : State) : s.Passes s := .same rfl rfl rfl rfl

theorem State.Passes.trans (h : s.Passes t) (k : t.Passes v) : s.Passes v :=
  ⟨h.toPlans.trans k.toPlans, h.toForms.trans k.toForms⟩

theorem foldl_passes {α : Type} {f : State → α → State} (h : ∀ (s : State) x, s.Passes (f s x)) (xs : List α) (s : State) :
    s.Passes (xs.foldl f s) := foldl_covered State.Passes .refl .trans f h xs s

/-! ## C formed afresh (R140, R143) -/

theorem rescale_le {old new : Nat} (fall : new < old) (c : Nat) : rescale old new c ≤ c := by
  rw [rescale_eq]
  exact Nat.div_le_of_le_mul (by rw [Nat.mul_comm]; exact Nat.mul_le_mul_right c fall.le)

theorem Sched.formed_credit (x : Sched) (n : Nat) (j : TenantId) : (x.formed n).credit.get j ≤ x.credit.get j := by
  unfold Sched.formed
  dsimp only
  split
  · rename_i fall
    rw [Four.get_map]
    exact rescale_le fall _
  · exact le_rfl

theorem State.Forms.formed {k : Nat} (sched : t.sched = s.sched.formed k) (cpm : t.cpm = s.cpm) : s.Forms t :=
  ⟨⟨_, _, sched, s.sched.formed_credit k⟩, by rw [cpm]⟩

theorem State.formCapacity_passes (s : State) : s.Passes s.formCapacity := by
  obtain ⟨_, _, e⟩ := s.formCapacity_only
  exact ⟨.same (by rw [e]) (by rw [e]), .formed s.formCapacity_sched (by rw [e])⟩

/-! ## Expiries, trackers, controllers, power (log 2) -/

theorem expireIf_passes (c : Bool) (e : Expiry) (s : State) : s.Passes (expireIf true c e s) := by
  obtain ⟨d, shape⟩ := expireIf_shape c e s
  rw [shape]
  exact .same rfl rfl rfl rfl

theorem expire_passes (e : Expiry) (s : State) : s.Passes (expire true e s) := .same rfl rfl rfl rfl

theorem State.fadeBoundary_passes (s : State) (k : CarrierId) : s.Passes (s.fadeBoundary true k) := by
  obtain ⟨g, o, d, e, -⟩ := s.fadeBoundary_shape k
  rw [e]
  exact .same rfl rfl rfl rfl

theorem State.setClc_passes (s : State) (k : CarrierId) (f : Clc → Clc) : s.Passes (s.setClc k f) := .same rfl rfl rfl rfl

theorem State.clcBoundary_passes (began : Four LinkState) (s : State) (k : CarrierId) : s.Passes (s.clcBoundary true began k) := by
  unfold State.clcBoundary
  dsimp only
  split
  · exact .refl s
  · split
    · split
      · exact .refl s
      · exact (s.setClc_passes k _).trans (State.formCapacity_passes _)
    · exact (s.setClc_passes k _).trans (expireIf_passes _ _ _)
    · exact (s.setClc_passes k _).trans (expireIf_passes _ _ _)
    · exact (s.setClc_passes k _).trans (expireIf_passes _ _ _)
    · split
      · exact (s.setClc_passes k _).trans (expireIf_passes _ _ _)
      · exact .refl s
    · exact .refl s

theorem State.recoveryBoundary_passes (s : State) : s.Passes (s.recoveryBoundary true) := by
  have counted : ∀ r, s.Passes { s with htu := { s.htu with recovery := r } } := fun _ => .same rfl rfl rfl rfl
  unfold State.recoveryBoundary
  split
  · exact .refl s
  · exact (counted _).trans (expireIf_passes _ _ _)

theorem State.powerBoundary_passes (s : State) : s.Passes (s.powerBoundary true) :=
  (show s.Passes { s with pbu := s.pbu.tick } from .same rfl rfl rfl rfl).trans (expireIf_passes _ _ _)

/-! ## The Adaptation Engine (R62–R66, R71) -/

/-- The context of one unit changes, its state at most from STEADY. -/
theorem State.Passes.context {u : UnitId} {g : Ade → Ade} (ade : t.ade = s.ade.modify u g) (plc : t.plc = s.plc)
    (sched : t.sched = s.sched) (cpm : t.cpm = s.cpm)
    (state : (g (s.ade.get u)).state = (s.ade.get u).state ∨ (s.ade.get u).state = .steady) : s.Passes t where
  state v := by
    rw [ade, Four.get_modify]
    split
    · rename_i own
      rw [own]
      exact state
    · exact .inl rfl
  stays e mem := .inl (by rwa [plc])
  origin y mem := .inl ⟨y, plc ▸ mem, rfl⟩
  toForms := .same sched (by rw [cpm])

theorem State.ticked_passes (s : State) (u : UnitId) : s.Passes (s.ticked u) := by
  have counted : ∀ (x : State) (g : Ade → Ade), (∀ a, (g a).state = a.state) → x.Passes (x.setAde u g) := fun x g kept =>
    .context (g := g) rfl rfl rfl rfl (.inl (kept _))
  have tick : s.Passes (s.tickUnit u) := by
    unfold State.tickUnit
    dsimp only
    split
    · exact (counted s _ (by intro; rfl)).trans (counted _ _ (by intro; rfl))
    · exact counted s _ (by intro; rfl)
  exact (tick.trans (expireIf_passes _ _ _)).trans (expireIf_passes _ _ _)

theorem State.proposeProfile_passes {u : UnitId} (steady : (s.ade.get u).state = .steady) (q : Nat) : s.Passes (s.proposeProfile u q) := by
  obtain ⟨g, x, l, released, e⟩ := s.proposeProfile_shape u q
  obtain ⟨a, d, l', removed, -⟩ := s.removeEntries_shape (Entry.isRxOf u)
  obtain ⟨entered, -⟩ := (s.removeEntries (Entry.isRxOf u)).enterProposal_same u q
  have formed : (s.proposeProfile u q).sched = s.sched.formed (s.removeEntries (Entry.isRxOf u)).capacityNow := by
    rw [State.proposeProfile_enters, entered]
    exact congrArg State.sched removed
  have plan : (s.proposeProfile u q).plc.plan = (s.plc.plan.filter fun e => !e.isRxOf u) ++ [s.proposal u q] := by rw [e]
  have ade : (s.proposeProfile u q).ade = (s.ade.modify u g).modify u fun a => { a with upDwell := 0, state := .proposing } := by rw [e]
  have own : ((s.proposeProfile u q).ade.get u).state = .proposing := by rw [ade, Four.get_modify_self]
  refine ⟨⟨fun v => ?_, fun y mem => ?_, fun y mem => ?_⟩, .formed formed (by rw [e])⟩
  · by_cases same : v = u
    · exact .inr (same ▸ steady)
    · rw [ade, Four.get_modify_of_ne _ _ same, Four.get_modify_of_ne _ _ same]
      exact .inl rfl
  · cases rx : y.isRxOf u with
    | true => exact .inr ⟨u, rx, steady, own⟩
    | false =>
      rw [plan]
      have kept : y ∈ s.plc.plan.filter fun e => !e.isRxOf u := List.mem_filter.2 ⟨mem, by rw [rx]; rfl⟩
      exact .inl (List.mem_append_left _ kept)
  · rw [plan] at mem
    obtain old | new := List.mem_append.1 mem
    · exact .inl ⟨y, List.mem_of_mem_filter old, rfl⟩
    · rw [List.mem_singleton.1 new]
      exact .inr ⟨rfl, le_rfl⟩

theorem State.decideUnit_passes (s : State) (u : UnitId) : s.Passes (s.decideUnit u) := by
  by_cases steady : (s.ade.get u).state = .steady
  · obtain stays | ⟨c, n, asks, -⟩ | ⟨q, proposes⟩ := s.decideUnit_decidesWithin u
    · rw [stays]
      exact .refl s
    · rw [asks]
      exact .context (u := u) (g := fun a => { a with ask := some ⟨s.askTag, c, n, 0⟩, asked := some c, state := .askingPower })
        rfl rfl rfl rfl (.inr steady)
    · rw [proposes]
      exact State.proposeProfile_passes steady q
  · have idle : s.decideUnit u = s := by
      unfold State.decideUnit
      split
      · exact if_neg steady
      · rfl
    rw [idle]
    exact .refl s

theorem State.adaptBoundary_passes (s : State) (u : UnitId) : s.Passes (s.adaptBoundary true u) := by
  rw [State.adaptBoundary_eq]
  split
  · exact (s.ticked_passes u).trans (expire_passes _ _)
  · exact (s.ticked_passes u).trans (State.decideUnit_passes _ u)

/-! ## The Carrier Pool Manager (R83, R127) -/

theorem State.linkRequest_passes (s : State) (c : LinkChange) : s.Passes (s.linkRequest c) := by
  obtain refused | ⟨⟨a, l, -, e⟩, -⟩ := s.linkRequest_cases c
  · rw [refused]
    exact .refl s
  · rw [e]
    refine ⟨⟨fun _ => .inl rfl, fun y mem => .inl (List.mem_append_left _ mem), fun y mem => ?_⟩, .same rfl rfl⟩
    obtain old | new := List.mem_append.1 mem
    · exact .inl ⟨y, old, rfl⟩
    · rw [List.mem_singleton.1 new]
      exact .inr ⟨rfl, le_rfl⟩

theorem State.poolBoundary_passes (s : State) : s.Passes (s.poolBoundary true) := by
  have counts : s.Passes s.poolCounts := .same rfl rfl rfl rfl
  exact counts.trans (s.poolBoundary_covered .refl .trans State.linkRequest_passes expireIf_passes)

/-! ## The Plan Controller (R92, R94) -/

theorem State.agePlan_plans (s : State) : s.Plans 1 s.agePlan ∧ s.Forms s.agePlan :=
  ⟨⟨fun _ => .inl rfl, fun _ mem => .inl (List.mem_map_of_mem mem), fun y mem => by
    obtain ⟨e, old, rfl⟩ := List.mem_map.1 mem
    exact .inl ⟨e, old, rfl⟩⟩, .same rfl rfl⟩

theorem State.planBoundary_plans (none' : s.noneDue s.htu.hsn) : s.Plans 1 (s.planBoundary true) ∧ s.Forms (s.planBoundary true) := by
  have past : s.Passes (ids.foldl (fun s u => expireIf true (s.plc.plan.any (Entry.isPastRx u s.htu.hsn)) (.rxPast u) s) s) :=
    foldl_passes (fun _ _ => expireIf_passes _ _ _) ids s
  have timeouts : ∀ x : State, x.Passes (x.timedOut.foldl (fun s tag => expire true (.proposal tag) s) x) := fun x =>
    foldl_passes (fun s tag => expire_passes (.proposal tag) s) _ x
  unfold State.planBoundary
  rw [State.applyDue_none none']
  obtain ⟨aged, formed⟩ := State.agePlan_plans
    (ids.foldl (fun s u => expireIf true (s.plc.plan.any (Entry.isPastRx u s.htu.hsn)) (.rxPast u) s) s)
  have plans := (past.toPlans.trans aged).trans (timeouts _).toPlans
  exact ⟨plans, (past.toForms.trans formed).trans (timeouts _).toForms⟩

end

end Sys2Proof.Machine
end

section
/-! SUPPORT. Plan ages, lanes and credits at a boundary whose expiries are left to steps of their own (R92, R131, R142, R167, R168). -/

namespace Sys2Proof.Machine

/-! ## The Lane and Queue Unit's own part (R167, R168, R173) -/

/-- A lane with its empty mark set is unbound (R167). -/
def Lane.unbindMarked (z : Lane) : Lane := if z.bound.isSome && z.emptyMark then { z with bound := none, emptyMark := false } else z

/-- A bound lane is marked unless its unit holds a block of it (R167). -/
def Lane.markEmpty (holds : UnitId → Bool) (z : Lane) : Lane :=
  match z.bound with
  | some b => if holds b.unit then z else { z with emptyMark := true }
  | none => z

/-- The binding of a lane at a boundary (R167). -/
def Lane.rebound (holds : UnitId → Bool) (z : Lane) : Lane := z.unbindMarked.markEmpty holds

section
variable {z : Lane} {holds : UnitId → Bool}

theorem Lane.unbindMarked_queue (z : Lane) : z.unbindMarked.queue = z.queue ∧ z.unbindMarked.timer = z.timer := by
  unfold Lane.unbindMarked
  split <;> exact ⟨rfl, rfl⟩

theorem Lane.markEmpty_queue (holds : UnitId → Bool) (z : Lane) :
    (z.markEmpty holds).queue = z.queue ∧ (z.markEmpty holds).timer = z.timer := by
  unfold Lane.markEmpty
  split
  · split <;> exact ⟨rfl, rfl⟩
  · exact ⟨rfl, rfl⟩

theorem Lane.rebound_queue (holds : UnitId → Bool) (z : Lane) : (z.rebound holds).queue = z.queue ∧ (z.rebound holds).timer = z.timer := by
  obtain ⟨queue, timer⟩ := Lane.markEmpty_queue holds z.unbindMarked
  exact ⟨queue.trans z.unbindMarked_queue.1, timer.trans z.unbindMarked_queue.2⟩

theorem Lane.rebound_left (holds : UnitId → Bool) (z : Lane) : (z.rebound holds).left = z.left := by
  rw [Lane.left, (z.rebound_queue holds).1, Lane.left]

theorem Lane.rebound_unbound (free : z.bound = none) : (z.rebound holds).bound = none := by
  simp [Lane.rebound, Lane.unbindMarked, Lane.markEmpty, free]

theorem Lane.rebound_marked {b : Binding} (bound : z.bound = some b) (marked : z.emptyMark = true) :
    (z.rebound holds).bound = none ∧ (z.rebound holds).emptyMark = false := by
  simp [Lane.rebound, Lane.unbindMarked, Lane.markEmpty, bound, marked]

theorem Lane.rebound_unmarked {b : Binding} (bound : z.bound = some b) (unmarked : z.emptyMark = false) :
    (z.rebound holds).bound = some b ∧ (z.rebound holds).emptyMark = !holds b.unit := by
  cases held : holds b.unit <;> simp [Lane.rebound, Lane.unbindMarked, Lane.markEmpty, bound, unmarked, held]

/-- The binding rests on binding and mark alone. -/
theorem Lane.rebound_congr {w : Lane} (bound : w.bound = z.bound) (mark : w.emptyMark = z.emptyMark) :
    (w.rebound holds).bound = (z.rebound holds).bound ∧ (w.rebound holds).emptyMark = (z.rebound holds).emptyMark := by
  cases free : z.bound with
  | none => simp [Lane.rebound, Lane.unbindMarked, Lane.markEmpty, free, bound.trans free, mark]
  | some b =>
    cases marked : z.emptyMark with
    | true =>
      obtain ⟨one, two⟩ := Lane.rebound_marked (holds := holds) free marked
      obtain ⟨one', two'⟩ := Lane.rebound_marked (holds := holds) (bound.trans free) (mark.trans marked)
      exact ⟨one'.trans one.symm, two'.trans two.symm⟩
    | false =>
      obtain ⟨one, two⟩ := Lane.rebound_unmarked (holds := holds) free marked
      obtain ⟨one', two'⟩ := Lane.rebound_unmarked (holds := holds) (bound.trans free) (mark.trans marked)
      exact ⟨one'.trans one.symm, two'.trans two.symm⟩

theorem Lane.tick_queue (z : Lane) : z.tick.queue = z.queue ∧ z.tick.bound = z.bound ∧ z.tick.emptyMark = z.emptyMark ∧
    z.tick.written = z.written := by
  unfold Lane.tick
  split <;> exact ⟨rfl, rfl, rfl, rfl⟩

theorem Lane.tick_left (z : Lane) : z.tick.left = z.left := by rw [Lane.left, z.tick_queue.1, Lane.left]

theorem Lane.tick_timer (queued : z.queue ≠ []) : z.tick.timer = min (z.timer + 1) 255 := by
  simp [Lane.tick, queued]

theorem Lane.tick_timer_le (z : Lane) : z.tick.timer ≤ z.timer + 1 := by
  unfold Lane.tick
  split
  · exact Nat.le_succ _
  · exact Nat.min_le_left _ _

end

/-! ## A lane at a boundary -/

/-- A lane at a boundary: stagings, its binding, stagings, its timer, which leaves it as `x`, stagings; its stall has fallen due if the
timer has reached the limit (R145, R167, R168). -/
structure Lane.Boundary (holds : UnitId → Bool) (due : Prop) (z x y : Lane) : Prop where
  parts : ∃ w v, z.Takes w ∧ (w.rebound holds).Takes v ∧ x = v.tick
  behind : x.Takes y
  stalls : x.stalled = true → due

/-- What a lane is behind a boundary in which nothing was staged from it. -/
structure Lane.Rests (holds : UnitId → Bool) (due : Prop) (z x y : Lane) : Prop where
  ticked : x.Untouched y
  queue : y.queue = z.queue
  timer : z.queue ≠ [] → y.timer = min (z.timer + 1) 255
  stall : z.queue ≠ [] → y.governing.limit ≤ y.timer → due
  binding : y.bound = (z.rebound holds).bound ∧ y.emptyMark = (z.rebound holds).emptyMark

section
variable {holds : UnitId → Bool} {due : Prop} {z x y : Lane}

/-- A boundary leaves a lane's queue at rest, or stages from it and leaves the timer at 1 at most (R168). -/
theorem Lane.Boundary.cases (h : z.Boundary holds due x y) : z.Rests holds due x y ∨ (y.left < z.left ∧ y.timer ≤ 1) := by
  obtain ⟨⟨w, v, before, between, rfl⟩, behind, stalls⟩ := h
  have first := before.left
  have second := between.left
  have third := behind.left
  have ticked := v.tick_timer_le
  obtain ⟨rebound, started⟩ := w.rebound_queue holds
  obtain ⟨queued, bound, mark, -⟩ := v.tick_queue
  rw [Lane.rebound_left] at second
  rw [Lane.tick_left] at third
  obtain same | ⟨less, zero⟩ := behind.staged
  · rw [same.left, Lane.tick_left, same.timer]
    obtain same' | ⟨less, zero⟩ := between.staged
    · obtain same'' | ⟨less, zero⟩ := before.staged
      · left
        have queue : v.queue = z.queue := (same'.queue.trans rebound).trans same''.queue
        have timer : v.timer = z.timer := (same'.timer.trans started).trans same''.timer
        obtain ⟨bound', mark'⟩ := Lane.rebound_congr (holds := holds) same''.bound same''.emptyMark
        refine ⟨same, same.queue.trans (queued.trans queue), fun waits => ?_, fun waits limit => stalls ?_,
          (same.bound.trans bound).trans (same'.bound.trans bound'), (same.emptyMark.trans mark).trans (same'.emptyMark.trans mark')⟩
        · rw [same.timer, Lane.tick_timer (queue ▸ waits), timer]
        · rw [same.governing, same.timer] at limit
          simp [Lane.stalled, queued, queue, waits, limit]
      · right
        have timer : v.timer = 0 := (same'.timer.trans started).trans zero
        have left : v.left = w.left := same'.left.trans (w.rebound_left holds)
        omega
    · right
      rw [Lane.rebound_left] at less
      omega
  · right
    rw [Lane.tick_left] at less
    omega

/-- A lane whose queue is as it was has been at rest. -/
theorem Lane.Boundary.rests (h : z.Boundary holds due x y) (queue : y.queue = z.queue) : z.Rests holds due x y :=
  h.cases.resolve_right fun less => by
    have same : y.left = z.left := by rw [Lane.left, queue, Lane.left]
    omega

theorem Lane.Boundary.timer (h : z.Boundary holds due x y) (moved : y.queue ≠ z.queue) : y.timer ≤ 1 :=
  h.cases.elim (fun rests => absurd rests.queue moved) fun less => less.2

theorem Lane.Boundary.spent (h : z.Boundary holds due x y) (spent : z.spent) : z.Rests holds due x y :=
  h.cases.resolve_right fun less => by
    have none' := Lane.spent_left spent
    omega

end

/-! ## The lanes at their own part -/

section
variable {x y : Sched} {t : TenantId} {l : LaneIx}

/-- A walk over all lanes that changes lane (t, l) at its own step alone. -/
theorem Sched.lane_foldl {f : Sched → TenantId × LaneIx → Sched} {P : Sched → Prop} {g : Lane → Lane}
    (keeps : ∀ y q, P y → P (f y q)) (own : ∀ y, P y → (f y (t, l)).lane t l = g (y.lane t l))
    (other : ∀ y q, q ≠ (t, l) → (f y q).lane t l = y.lane t l) (start : P x) : (allLanes.foldl f x).lane t l = g (x.lane t l) := by
  have apart : ∀ (qs : List (TenantId × LaneIx)) (y : Sched), (t, l) ∉ qs → P y →
      P (qs.foldl f y) ∧ (qs.foldl f y).lane t l = y.lane t l := by
    intro qs
    induction qs with
    | nil => exact fun y _ held => ⟨held, rfl⟩
    | cons q qs ih =>
      intro y absent held
      rw [List.mem_cons, not_or] at absent
      obtain ⟨held', same⟩ := ih (f y q) absent.2 (keeps y q held)
      exact ⟨held', same.trans (other y q fun same => absent.1 same.symm)⟩
  obtain ⟨a, b, split⟩ := List.append_of_mem (mem_allLanes t l)
  have once : (ids ×ˢ laneIds).Nodup := List.Nodup.product (by decide) (List.nodup_finRange 31)
  change allLanes.Nodup at once
  rw [split, List.nodup_middle, List.nodup_cons, List.mem_append, not_or] at once
  rw [split, List.foldl_append, List.foldl_cons]
  obtain ⟨held, before⟩ := apart a x once.1.1 start
  rw [(apart b _ once.1.2 (keeps _ _ held)).2, own _ held, before]

theorem Sched.lane_unbind (x : Sched) (j : TenantId) (i : LaneIx) : (x.unbind j i).lane t l =
    if t = j ∧ l = i then { x.lane j i with bound := none, emptyMark := false } else x.lane t l :=
  x.lane_setLane j t i l fun z => { z with bound := none, emptyMark := false }

theorem Sched.unbindMarked_lane (x : Sched) (t : TenantId) (l : LaneIx) : x.unbindMarked.lane t l = (x.lane t l).unbindMarked := by
  unfold Sched.unbindMarked Sched.unbindWhere
  refine Sched.lane_foldl (g := Lane.unbindMarked) (P := fun _ => True) (fun _ _ _ => trivial) (fun y _ => ?_) (fun y q apart => ?_) trivial
  · dsimp only
    split
    · rename_i marked
      rw [Sched.lane_unbind, if_pos ⟨rfl, rfl⟩, Lane.unbindMarked, if_pos marked]
    · rename_i unmarked
      rw [Lane.unbindMarked, if_neg unmarked]
  · dsimp only
    split
    · rw [Sched.lane_unbind, if_neg]
      rintro ⟨rfl, rfl⟩
      exact apart rfl
    · rfl

theorem Sched.markEmpty_lane (x : Sched) (t : TenantId) (l : LaneIx) :
    x.markEmpty.lane t l = (x.lane t l).markEmpty fun u => (x.staging.get u).holdsLane t l := by
  unfold Sched.markEmpty
  refine Sched.lane_foldl (g := Lane.markEmpty fun u => (x.staging.get u).holdsLane t l) (P := fun y => y.staging = x.staging)
    (fun _ _ held => held) (fun y held => ?_) (fun y q apart => ?_) rfl
  · rw [Sched.lane_setLane, if_pos ⟨rfl, rfl⟩, held]
    rfl
  · rw [Sched.lane_setLane, if_neg]
    rintro ⟨rfl, rfl⟩
    exact apart rfl

/-- What the unbinding of marked lanes keeps (R167). -/
theorem Sched.unbindMarked_keeps (x : Sched) : (∀ u t l, (x.unbindMarked.staging.get u).holdsLane t l = (x.staging.get u).holdsLane t l) ∧
    x.unbindMarked.credit = x.credit ∧ x.unbindMarked.renewal = x.renewal := by
  unfold Sched.unbindMarked Sched.unbindWhere
  induction allLanes generalizing x with
  | nil => exact ⟨fun _ _ _ => rfl, rfl, rfl⟩
  | cons q qs ih =>
    obtain ⟨holds, credit, renewal⟩ := ih (if (x.lane q.1 q.2).bound.isSome && (x.lane q.1 q.2).emptyMark then x.unbind q.1 q.2 else x)
    rw [List.foldl_cons]
    have step : (∀ u t l, ((if (x.lane q.1 q.2).bound.isSome && (x.lane q.1 q.2).emptyMark then x.unbind q.1 q.2 else x).staging.get
        u).holdsLane t l = (x.staging.get u).holdsLane t l) ∧
        (if (x.lane q.1 q.2).bound.isSome && (x.lane q.1 q.2).emptyMark then x.unbind q.1 q.2 else x).credit = x.credit ∧
        (if (x.lane q.1 q.2).bound.isSome && (x.lane q.1 q.2).emptyMark then x.unbind q.1 q.2 else x).renewal = x.renewal := by
      split
      · refine ⟨fun u t l => ?_, rfl, rfl⟩
        simp only [Sched.unbind, Sched.dropConts, Four.get_map]
        rfl
      · exact ⟨fun _ _ _ => rfl, rfl, rfl⟩
    exact ⟨fun u t l => (holds u t l).trans (step.1 u t l), credit.trans step.2.1, renewal.trans step.2.2⟩

theorem Sched.markEmpty_keeps (x : Sched) : x.markEmpty.credit = x.credit ∧ x.markEmpty.renewal = x.renewal := by
  unfold Sched.markEmpty
  induction allLanes generalizing x with
  | nil => exact ⟨rfl, rfl⟩
  | cons q qs ih => exact ih _

/-- The bindings of a boundary (R167). -/
def Sched.rebound (x : Sched) : Sched := x.unbindMarked.markEmpty

theorem Sched.rebound_lane (x : Sched) (t : TenantId) (l : LaneIx) :
    x.rebound.lane t l = (x.lane t l).rebound fun u => (x.staging.get u).holdsLane t l := by
  have holds : (fun u => (x.unbindMarked.staging.get u).holdsLane t l) = fun u => (x.staging.get u).holdsLane t l :=
    funext fun u => x.unbindMarked_keeps.1 u t l
  rw [Sched.rebound, Sched.markEmpty_lane, Sched.unbindMarked_lane, holds]
  rfl

theorem Sched.rebound_unique (unique : x.Unique) : x.rebound.Unique := fun t l => by
  rw [Sched.rebound_lane, (Lane.rebound_queue _ _).1]
  exact unique t l

theorem Sched.tickLanes_lane (x : Sched) (t : TenantId) (l : LaneIx) : x.tickLanes.lane t l = (x.lane t l).tick := by
  simp [Sched.lane, Sched.tickLanes]

end

end Sys2Proof.Machine
end

section
/-! SUPPORT. The boundary whose expiries are left to steps of their own, part by part and in any order (R2, R92, R94, R131, R142, R167,
R168; log 1, log 2). -/

namespace Sys2Proof.Machine

/-! ## Expiries that fall due (log 2) -/

theorem mem_expire_due (e : Expiry) (s : State) : e ∈ (expire true e s).due := List.mem_append_right _ (List.mem_singleton_self e)

/-- What the step for `a` leaves due stands behind the walk over all. -/
theorem mem_foldl_due {α : Type} {f : State → α → State} {P : State → Prop} (keeps : ∀ s a, P s → P (f s a))
    (grows : ∀ s a, ∀ e ∈ s.due, e ∈ (f s a).due) {a : α} {e : Expiry} (adds : ∀ s, P s → e ∈ (f s a).due) {as : List α} (mem : a ∈ as)
    {s : State} (start : P s) : e ∈ (as.foldl f s).due := by
  have later : ∀ (as : List α) (s : State), e ∈ s.due → e ∈ (as.foldl f s).due := fun as => by
    induction as with
    | nil => exact fun _ here => here
    | cons b bs ih => exact fun s here => ih _ (grows s b e here)
  induction as generalizing s with
  | nil => cases mem
  | cons b bs ih =>
    obtain rfl | rest := List.mem_cons.1 mem
    · exact later bs _ (adds s start)
    · exact ih rest (keeps s b start)

section
variable {began : Four LinkState} {s t v : State}

/-- The Plan Controller's part leaves due what has waited to age 4, and what is past its target (R92, R94). -/
theorem State.planBoundary_due (none' : s.noneDue s.htu.hsn) {y : Entry} (mem : y ∈ s.plc.plan) :
    (y.origin = .local → y.state = .proposed → 3 ≤ y.age → .proposal y.tag ∈ (s.planBoundary true).due) ∧
    (∀ u h, y.isRxOf u = true → y.state = .agreed → y.target = some h → h + 1 = s.htu.hsn → .rxPast u ∈ (s.planBoundary true).due) := by
  have kept : ∀ (x : State) (c : Bool) (e : Expiry), (x.plc = s.plc ∧ x.htu = s.htu) →
      (expireIf true c e x).plc = s.plc ∧ (expireIf true c e x).htu = s.htu := fun x c e same => by
    obtain ⟨d, shape⟩ := expireIf_shape c e x
    rw [shape]
    exact same
  have grows : ∀ (x : State) (c : Bool) (e : Expiry), ∀ e' ∈ x.due, e' ∈ (expireIf true c e x).due := fun x c e =>
    (expireIf_works (v := none) c e x).due
  have later : ∀ (tags : List Tag) (x : State), ∀ e ∈ x.due, e ∈ (tags.foldl (fun s tag => expire true (.proposal tag) s) x).due :=
    fun tags x => (foldl_works (v := none) (fun s tag => expire_works (.proposal tag) s) tags x).due
  unfold State.planBoundary
  rw [State.applyDue_none none']
  refine ⟨fun origin state old => ?_, fun u h rx agreed target past => ?_⟩
  · refine mem_foldl_due (P := fun _ => True) (a := y.tag) (fun _ _ _ => trivial)
      (fun s tag => (expire_works (v := none) (.proposal tag) s).due) (fun x _ => mem_expire_due _ x) ?_ trivial
    have plan : (ids.foldl (fun s u => expireIf true (s.plc.plan.any (Entry.isPastRx u s.htu.hsn)) (.rxPast u) s) s).plc = s.plc :=
      foldl_covered (fun x y : State => y.plc = x.plc) (fun _ => rfl) (fun h k => k.trans h) _ (fun x u => by
        obtain ⟨d, shape⟩ := expireIf_shape (x.plc.plan.any (Entry.isPastRx u x.htu.hsn)) (.rxPast u) x
        rw [shape]) ids s
    refine List.mem_map.2 ⟨y.agedBy 1, List.mem_filter.2 ⟨?_, ?_⟩, rfl⟩
    · show y.agedBy 1 ∈ (_ : Plc).plan.map _
      rw [plan]
      exact List.mem_map_of_mem mem
    · have aged : 4 ≤ (y.agedBy 1).age := by
        show 4 ≤ min (y.age + 1) 15
        omega
      have origin' : (y.agedBy 1).origin = .local := origin
      have state' : (y.agedBy 1).state = .proposed := state
      simp [aged, origin', state']
  · refine later _ _ _ ?_
    refine mem_foldl_due (f := fun s u => expireIf true (s.plc.plan.any (Entry.isPastRx u s.htu.hsn)) (.rxPast u) s)
      (P := fun x => x.plc = s.plc ∧ x.htu = s.htu) (a := u) (fun x u same => kept x _ _ same) (fun x u => grows x _ _)
      (fun x same => mem_expireIf_due ?_) (mem_ids u) ⟨rfl, rfl⟩
    rw [same.1, same.2]
    exact List.any_eq_true.2 ⟨y, mem, by simp [Entry.isPastRx, rx, agreed, target]; exact past⟩

/-! ## The lanes' part (R131, R167, R168, R173) -/

theorem State.laneBoundary_parts (s : State) : ∃ x, s.sched.rebound.Refills x ∧ (s.laneBoundary true).sched = x.tickLanes ∧
    (∀ t l, (x.tickLanes.lane t l).stalled = true → .stall t l ∈ (s.laneBoundary true).due) ∧
    ((∀ t l, (x.tickLanes.lane t l).stalled = false) → (s.laneBoundary true).cpm.backlog = x.tickLanes.backlog) ∧
    (s.laneBoundary true).ade = s.ade ∧ (s.laneBoundary true).plc = s.plc := by
  obtain ⟨x, refills, shape⟩ : ∃ x, s.sched.rebound.Refills x ∧ s.unbindBoundary = { s with sched := x } := by
    unfold State.unbindBoundary
    dsimp only
    split
    · exact ⟨_, Sched.refill_refills _ _, rfl⟩
    · exact ⟨_, .refl _, rfl⟩
  have expired : ∀ (qs : List (TenantId × LaneIx)) (y : State),
      ∃ d, qs.foldl (fun s q => expire true (.stall q.1 q.2) s) y = { y with due := d } := fun qs => by
    induction qs with
    | nil => exact fun y => ⟨y.due, rfl⟩
    | cons q qs ih =>
      intro y
      obtain ⟨d, rest⟩ := ih (expire true (.stall q.1 q.2) y)
      exact ⟨d, rest⟩
  obtain ⟨d, fallen⟩ := expired ({ s with sched := x.tickLanes } : State).stalledLanes { s with sched := x.tickLanes }
  have whole : s.laneBoundary true = { s with
      sched := x.tickLanes, due := d
      cpm := { s.cpm with backlog := ({ s with sched := x.tickLanes } : State).backlogAfterStalls } } := by
    unfold State.laneBoundary
    rw [shape]
    dsimp only
    rw [fallen]
  have stands : ∀ t l, (x.tickLanes.lane t l).stalled = true → .stall t l ∈ d := fun t l stalled => by
    have due : d = (({ s with sched := x.tickLanes } : State).stalledLanes.foldl (fun s q => expire true (.stall q.1 q.2) s)
      { s with sched := x.tickLanes }).due := by rw [fallen]
    have listed : (t, l) ∈ ({ s with sched := x.tickLanes } : State).stalledLanes := List.mem_filter.2 ⟨mem_allLanes t l, stalled⟩
    rw [due]
    exact mem_foldl_due (P := fun _ => True) (a := (t, l)) (fun _ _ _ => trivial)
      (fun s q => (expire_works (v := none) (.stall q.1 q.2) s).due) (fun y _ => mem_expire_due _ y)
      listed trivial
  rw [whole]
  refine ⟨x, refills, rfl, stands, fun calm => ?_, rfl, rfl⟩
  have none' : ({ s with sched := x.tickLanes } : State).stalledLanes = [] :=
    List.filter_eq_nil_iff.2 fun q _ stalled => by simp [calm q.1 q.2] at stalled
  show ({ s with sched := x.tickLanes } : State).backlogAfterStalls = _
  rw [State.backlogAfterStalls, none']
  rfl

/-! ## Parts in sequence -/

/-- The queues hold the same packets, and those of a lane with nothing to stage are as before. -/
structure Sched.KeepsQueues (x y : Sched) : Prop where
  ids : ∀ t l, (y.lane t l).queue.map Packet.id = (x.lane t l).queue.map Packet.id
  spent : ∀ t l, (x.lane t l).spent → (y.lane t l).spent

theorem Sched.KeepsQueues.trans {x y z : Sched} (h : x.KeepsQueues y) (k : y.KeepsQueues z) : x.KeepsQueues z :=
  ⟨fun t l => (k.ids t l).trans (h.ids t l), fun t l spent => k.spent t l (h.spent t l spent)⟩

theorem Sched.KeepsQueues.unique {x y : Sched} (h : x.KeepsQueues y) (unique : x.Unique) : y.Unique := fun t l => by
  rw [h.ids]
  exact unique t l

theorem Sched.KeepsLanes.queues {x y : Sched} (h : x.KeepsLanes y) : x.KeepsQueues y :=
  ⟨fun t l => (h.lane t l).ids, fun _ _ spent => h.spent spent⟩

theorem Sched.KeepsQueues.of_queue {x y : Sched} (queue : ∀ t l, (y.lane t l).queue = (x.lane t l).queue) : x.KeepsQueues y :=
  ⟨fun t l => by rw [queue], fun t l spent p mem => spent p (queue t l ▸ mem)⟩

theorem Sched.rebound_queues (x : Sched) : x.KeepsQueues x.rebound := .of_queue fun t l => by
  rw [Sched.rebound_lane]
  exact (Lane.rebound_queue _ _).1

theorem Sched.tickLanes_queues (x : Sched) : x.KeepsQueues x.tickLanes := .of_queue fun t l => by
  rw [Sched.tickLanes_lane]
  exact (x.lane t l).tick_queue.1

theorem State.Forms.lanes (h : s.Forms t) : s.sched.KeepsLanes t.sched := by
  obtain ⟨n, c, e, -⟩ := h.sched
  rw [e]
  exact .same rfl rfl

/-- The credits at the renewal (R142). -/
theorem State.scheduleBoundary_renews (none' : s.noneDue s.htu.hsn) : s.renewCredits.sched.Refills s.scheduleBoundary.sched := by
  unfold State.scheduleBoundary
  rw [State.applyDue_none none']
  exact Sched.refill_refills _ _

/-- A part that is neither the lanes' own nor the scheduler's. -/
theorem State.boundaryPart_forms {p : BoundaryPart} (none' : s.noneDue s.htu.hsn) (lanes : p ≠ .lanes) (schedule : p ≠ .schedule) :
    s.Forms (State.boundaryPart true began s p) := by
  cases p with
  | clc k => exact (s.clcBoundary_passes began k).toForms
  | recovery => exact s.recoveryBoundary_passes.toForms
  | fade => exact (foldl_passes State.fadeBoundary_passes ids s).toForms
  | adapt u => exact (s.adaptBoundary_passes u).toForms
  | plan => exact (State.planBoundary_plans none').2
  | power => exact s.powerBoundary_passes.toForms
  | lanes => exact absurd rfl lanes
  | pool => exact s.poolBoundary_passes.toForms
  | schedule => exact absurd rfl schedule

/-- A part that is not the Plan Controller's. -/
theorem State.boundaryPart_plans {p : BoundaryPart} (none' : s.noneDue s.htu.hsn) (plan : p ≠ .plan) :
    s.Plans 0 (State.boundaryPart true began s p) := by
  cases p with
  | clc k => exact (s.clcBoundary_passes began k).toPlans
  | recovery => exact s.recoveryBoundary_passes.toPlans
  | fade => exact (foldl_passes State.fadeBoundary_passes ids s).toPlans
  | adapt u => exact (s.adaptBoundary_passes u).toPlans
  | plan => exact absurd rfl plan
  | power => exact s.powerBoundary_passes.toPlans
  | lanes =>
    obtain ⟨_, -, -, -, -, ade, plc⟩ := s.laneBoundary_parts
    exact .same ade plc
  | pool => exact s.poolBoundary_passes.toPlans
  | schedule =>
    have same : s.scheduleBoundary = s.renewCredits.refill := by rw [State.scheduleBoundary, State.applyDue_none none']
    exact .same (by rw [State.boundaryPart, same]; rfl) (by rw [State.boundaryPart, same]; rfl)

/-- A part that is not the lanes' own. -/
theorem State.boundaryPart_lanes {p : BoundaryPart} (none' : s.noneDue s.htu.hsn) (unique : s.sched.Unique) (lanes : p ≠ .lanes) :
    s.sched.KeepsLanes (State.boundaryPart true began s p).sched ∧ (State.boundaryPart true began s p).cpm.backlog = s.cpm.backlog := by
  by_cases schedule : p = .schedule
  · subst schedule
    have same : s.scheduleBoundary = s.renewCredits.refill := by rw [State.scheduleBoundary, State.applyDue_none none']
    have renewed : s.sched.KeepsLanes s.renewCredits.sched := .same rfl rfl
    exact ⟨renewed.trans ((State.scheduleBoundary_renews none').staged unique).toKeepsLanes, by rw [State.boundaryPart, same]; rfl⟩
  · have forms := State.boundaryPart_forms (began := began) none' lanes schedule
    exact ⟨forms.lanes, forms.backlog⟩

theorem State.boundaryPart_queues (p : BoundaryPart) (none' : s.noneDue s.htu.hsn) (unique : s.sched.Unique) :
    s.sched.KeepsQueues (State.boundaryPart true began s p).sched := by
  by_cases lanes : p = .lanes
  · subst lanes
    obtain ⟨x, refills, sched, -⟩ := s.laneBoundary_parts
    show s.sched.KeepsQueues (s.laneBoundary true).sched
    rw [sched]
    exact (s.sched.rebound_queues.trans (refills.staged (Sched.rebound_unique unique)).queues).trans x.tickLanes_queues
  · exact (State.boundaryPart_lanes none' unique lanes).1.queues

/-- A part that is not the scheduler's: credits do not rise, and the renewal stands (R142). -/
theorem State.boundaryPart_credits {p : BoundaryPart} (none' : s.noneDue s.htu.hsn) (unique : s.sched.Unique) (schedule : p ≠ .schedule) :
    (∀ j, (State.boundaryPart true began s p).sched.credit.get j ≤ s.sched.credit.get j) ∧
      (State.boundaryPart true began s p).sched.renewal = s.sched.renewal := by
  by_cases lanes : p = .lanes
  · subst lanes
    obtain ⟨x, refills, sched, -⟩ := s.laneBoundary_parts
    obtain ⟨-, credit, renewal⟩ := s.sched.unbindMarked_keeps
    obtain ⟨credit', renewal'⟩ := s.sched.unbindMarked.markEmpty_keeps
    have staged := refills.staged (Sched.rebound_unique unique)
    have old : s.sched.rebound.credit = s.sched.credit := credit'.trans credit
    show (∀ j, (s.laneBoundary true).sched.credit.get j ≤ _) ∧ (s.laneBoundary true).sched.renewal = _
    rw [sched]
    exact ⟨fun j => (staged.credit j).trans (by rw [old]), staged.renewal.trans (renewal'.trans renewal)⟩
  · obtain ⟨_, _, e, less⟩ := (State.boundaryPart_forms (began := began) none' lanes schedule).sched
    rw [e]
    exact ⟨less, rfl⟩

/-- What each of some parts keeps, they keep in sequence, where no entry applies and packets have numbers of their own. -/
theorem State.boundaryParts_covered {R : State → State → Prop} (refl : ∀ s, R s s) (trans : ∀ {s t v : State}, R s t → R t v → R s v)
    {Q : BoundaryPart → Prop} (step : ∀ (s : State) p, s.noneDue s.htu.hsn → s.sched.Unique → Q p → R s (State.boundaryPart true began s p))
    {ps : List BoundaryPart} (all : ∀ p ∈ ps, Q p) (none' : s.noneDue s.htu.hsn) (unique : s.sched.Unique) :
    R s (ps.foldl (State.boundaryPart true began) s) := by
  induction ps generalizing s with
  | nil => exact refl s
  | cons p ps ih =>
    have ran := (State.boundaryPart_ran (u := 0) began none' p).quiet none'
    have queues := State.boundaryPart_queues (began := began) p none' unique
    exact trans (step s p none' unique (all p (by simp))) (ih (fun q mem => all q (by simp [mem])) ran (queues.unique unique))

/-- A boundary from `s` to `t`, in the order `ps`, that takes part `p` at `x`: what every other part keeps is kept before and behind. -/
structure State.Around (began : Four LinkState) (ps : List BoundaryPart) (p : BoundaryPart) (s x t : State) : Prop where
  covered : ∀ {R : State → State → Prop}, (∀ s, R s s) → (∀ {s t v : State}, R s t → R t v → R s v) →
    (∀ (s : State) q, s.noneDue s.htu.hsn → s.sched.Unique → q ≠ p → R s (State.boundaryPart true began s q)) →
    R s x ∧ R (State.boundaryPart true began x p) t
  quiet : x.noneDue x.htu.hsn
  unique : x.sched.Unique
  spent : ∀ j l, (s.sched.lane j l).spent → (x.sched.lane j l).spent
  rides : ∃ n, s.Rides began n x
  due : ∀ e ∈ (State.boundaryPart true began x p).due, e ∈ t.due
  last : ps.getLast? = some p → t = State.boundaryPart true began x p

theorem State.boundary_around (order : List BoundaryPart) {p : BoundaryPart} (part : p ∈ allParts) (none' : s.noneDue s.htu.hsn)
    (unique : s.sched.Unique) :
    ∃ x, State.Around began (boundaryOrder order) p s x ((boundaryOrder order).foldl (State.boundaryPart true began) s) := by
  obtain ⟨nodup, all⟩ := nodup_of_validOrder (validOrder_boundaryOrder order)
  obtain ⟨a, b, split⟩ := List.append_of_mem (all p part)
  rw [split] at nodup ⊢
  rw [List.nodup_middle, List.nodup_cons, List.mem_append, not_or] at nodup
  obtain ⟨⟨absentA, absentB⟩, -⟩ := nodup
  have last : (a ++ p :: b).getLast? = some p → b = [] := fun ends => by
    rw [List.getLast?_append_cons] at ends
    cases b with
    | nil => rfl
    | cons q qs =>
      rw [List.getLast?_cons_cons] at ends
      exact absurd (List.mem_of_getLast? ends) absentB
  have rides : s.Rides began _ (a.foldl (State.boundaryPart true began) s) := State.boundaryParts_rides (.inl none')
  have queues : s.sched.KeepsQueues (a.foldl (State.boundaryPart true began) s).sched :=
    State.boundaryParts_covered (R := fun s t => s.sched.KeepsQueues t.sched) (Q := fun _ => True) (fun _ => .of_queue fun _ _ => rfl)
      .trans (fun _ p none' unique _ => State.boundaryPart_queues p none' unique) (fun _ _ => trivial) none' unique
  have early := (State.boundaryParts_ran (u := 0) began a none').quiet none'
  have here := (State.boundaryPart_ran (u := 0) began early p).quiet early
  have unique' := queues.unique unique
  have later := (State.boundaryPart_queues (began := began) p early unique').unique unique'
  refine ⟨a.foldl (State.boundaryPart true began) s, fun refl trans step => ⟨?_, ?_⟩, early, unique', queues.spent, ⟨_, rides⟩, ?_, ?_⟩
  · exact State.boundaryParts_covered refl trans step (fun q mem => fun same => absentA (same ▸ mem)) none' unique
  · rw [List.foldl_append, List.foldl_cons]
    exact State.boundaryParts_covered refl trans step (fun q mem => fun same => absentB (same ▸ mem)) here later
  · rw [List.foldl_append, List.foldl_cons]
    exact (State.boundaryParts_ran (u := 0) began b here).due
  · intro ends
    rw [last ends, List.foldl_append]
    rfl

end

end Sys2Proof.Machine
end

section
/-! SUPPORT. Plan, credits and lanes at a boundary, each at its own part (R92, R94, R131, R142, R167, R168). -/

namespace Sys2Proof.Machine

section
variable {began : Four LinkState} {s t : State} (order : List BoundaryPart) (none' : s.noneDue s.htu.hsn) (unique : s.sched.Unique)
include none' unique

/-- Every entry ages or gives way to a new proposal of its unit, and falls due by its age or its target (R71, R92, R94). -/
theorem State.boundary_plans (ran : t = (boundaryOrder order).foldl (State.boundaryPart true began) s) {e : Entry} (mem : e ∈ s.plc.plan) :
    (e.agedBy 1 ∈ t.plc.plan ∨ ∃ u, e.isRxOf u = true ∧ (s.ade.get u).state = .steady ∧ (t.ade.get u).state = .proposing) ∧
    (e.isRx = false ∨ e.agedBy 1 ∈ t.plc.plan →
      (e.origin = .local → e.state = .proposed → 3 ≤ e.age → .proposal e.tag ∈ t.due) ∧
      (∀ u h, e.isRxOf u = true → e.state = .agreed → e.target = some h → h + 1 = s.htu.hsn → .rxPast u ∈ t.due)) := by
  obtain ⟨x, around⟩ := State.boundary_around (began := began) order (p := .plan) (by decide) none' unique
  rw [← ran] at around
  obtain ⟨before, behind⟩ := around.covered (R := State.Plans 0) (fun _ => .same rfl rfl) State.Plans.trans
    fun s q quiet _ other => State.boundaryPart_plans quiet other
  obtain ⟨own, -⟩ := State.planBoundary_plans around.quiet
  have rest : x.Plans 1 t := own.trans behind
  have whole : s.Plans 1 t := before.trans rest
  obtain ⟨n, rides⟩ := around.rides
  refine ⟨whole.stays e mem, fun stands => ?_⟩
  have source : (∃ y ∈ x.plc.plan, e.agedBy 1 = y.agedBy 1) ∨ (e.state = .proposed ∧ (e.agedBy 1).age ≤ 1) := by
    obtain plain | aged := stands
    · obtain here | ⟨u, rx, -⟩ := before.stays e mem
      · exact .inl ⟨e, here, rfl⟩
      · simp [Entry.isRx_of_isRxOf rx] at plain
    · exact rest.origin _ aged
  have age : (e.agedBy 1).age = min (e.age + 1) 15 := rfl
  obtain ⟨y, here, same⟩ | ⟨proposed, young⟩ := source
  · obtain ⟨timeout, past⟩ := State.planBoundary_due around.quiet here
    have tag : e.tag = y.tag := (congrArg Entry.tag same :)
    have origin : e.origin = y.origin := (congrArg Entry.origin same :)
    have state : e.state = y.state := (congrArg Entry.state same :)
    have target : e.target = y.target := (congrArg Entry.target same :)
    have change : e.change = y.change := (congrArg Entry.change same :)
    have ages : min (e.age + 1) 15 = min (y.age + 1) 15 := (congrArg Entry.age same :)
    refine ⟨fun isLocal proposed old => ?_, fun u h rx agreed named gone => ?_⟩
    · rw [tag]
      exact around.due _ (timeout (origin ▸ isLocal) (state ▸ proposed) (by omega))
    · have rx' : y.isRxOf u = true := by
        obtain ⟨q, profile⟩ := Entry.isRxOf_iff.1 rx
        exact Entry.isRxOf_iff.2 ⟨q, change ▸ profile⟩
      exact around.due _ (past u h rx' (state ▸ agreed) (target ▸ named) (gone.trans rides.hsn.symm))
  · exact ⟨fun _ _ old => by omega, fun _ _ _ agreed => by cases proposed.symm.trans agreed⟩

omit none' unique in
theorem State.Rides.renewal {n : Nat} (rides : s.Rides began n t) : t.capacityAtRenewal = s.capacityAtRenewal := by
  have locked : ∀ u, t.unitLocked u = s.unitLocked u := State.unitLocked_congr rides.settings rides.locked
  have acts : ∀ u, t.actsTraffic u = s.actsTraffic u := fun u => by rw [State.actsTraffic, rides.acting, State.actsTraffic]
  have drains : ∀ u, t.isDraining u = s.isDraining u := fun u => by rw [State.isDraining, rides.draining, State.isDraining]
  have blocks : ∀ u, t.unitBlocks u = s.unitBlocks u := fun u => by
    rw [State.unitBlocks, rides.settings, rides.profile, State.unitBlocks]
  simp only [State.capacityAtRenewal, locked, acts, drains, blocks]

/-- The renewal, and the credits behind it (R142, R143, R146). -/
theorem State.boundary_credits (ran : t = (boundaryOrder order).foldl (State.boundaryPart true began) s) :
    t.sched.renewal = s.capacityAtRenewal ∧ ∀ j, t.sched.credit.get j ≤ s.capacityAtRenewal * s.settings.committed j ∧
      ((boundaryOrder order).getLast? = some .schedule → (∀ l, (s.sched.lane j l).spent) →
        t.sched.credit.get j = s.capacityAtRenewal * s.settings.committed j) := by
  obtain ⟨x, around⟩ := State.boundary_around (began := began) order (p := .schedule) (by decide) none' unique
  rw [← ran] at around
  obtain ⟨-, lowered, stands⟩ := around.covered
    (R := fun s t => (∀ j, t.sched.credit.get j ≤ s.sched.credit.get j) ∧ t.sched.renewal = s.sched.renewal)
    (fun _ => ⟨fun _ => le_rfl, rfl⟩) (fun h k => ⟨fun j => (k.1 j).trans (h.1 j), k.2.trans h.2⟩)
    fun s q quiet unique other => State.boundaryPart_credits quiet unique other
  obtain ⟨n, rides⟩ := around.rides
  have staged := (State.scheduleBoundary_renews around.quiet).staged around.unique
  have renewed : ∀ j, x.renewCredits.sched.credit.get j = s.capacityAtRenewal * s.settings.committed j := fun j => by
    rw [← rides.renewal, ← rides.settings]
    exact Four.get_build _ j
  refine ⟨stands.trans (staged.renewal.trans rides.renewal), fun j => ⟨?_, fun last spent => ?_⟩⟩
  · exact (lowered j).trans ((staged.credit j).trans (renewed j).le)
  · rw [around.last last]
    exact (staged.exact j fun l => around.spent j l (spent l)).trans (renewed j)

/-- Every lane passes through the lanes' own part once; the backlog handed on is what the ticked lanes have left where none stalls (R131,
R167, R168, R173). -/
theorem State.boundary_lanes (ran : t = (boundaryOrder order).foldl (State.boundaryPart true began) s) :
    ∃ (x : Sched) (holds : TenantId → LaneIx → UnitId → Bool),
      (∀ j l, (s.sched.lane j l).Boundary (holds j l) (.stall j l ∈ t.due) (x.lane j l) (t.sched.lane j l)) ∧
      (∀ j l, (s.sched.lane j l).spent → ∀ u, holds j l u = (s.sched.staging.get u).holdsLane j l) ∧
      ((∀ j l, (x.lane j l).stalled = false) → t.cpm.backlog = x.backlog) := by
  obtain ⟨y, around⟩ := State.boundary_around (began := began) order (p := .lanes) (by decide) none' unique
  rw [← ran] at around
  obtain ⟨before, behind⟩ := around.covered (R := fun s t => s.sched.KeepsLanes t.sched ∧ t.cpm.backlog = s.cpm.backlog)
    (fun _ => ⟨.same rfl rfl, rfl⟩) (fun h k => ⟨h.1.trans k.1, k.2.trans h.2⟩)
    fun s q quiet unique other => State.boundaryPart_lanes quiet unique other
  obtain ⟨x, refills, sched, stalls, backlog, -⟩ := y.laneBoundary_parts
  have staged := refills.staged (Sched.rebound_unique around.unique)
  obtain ⟨lanes, kept⟩ := behind
  refine ⟨x.tickLanes, fun j l u => (y.sched.staging.get u).holdsLane j l, fun j l => ⟨⟨y.sched.lane j l, x.lane j l, ?_, ?_, ?_⟩, ?_, ?_⟩,
    fun j l spent u => before.1.holds j l spent u, fun calm => kept.trans (backlog calm)⟩
  · exact before.1.lane j l
  · rw [← Sched.rebound_lane]
    exact staged.lane j l
  · exact x.tickLanes_lane j l
  · rw [← sched]
    exact lanes.lane j l
  · exact fun stalled => around.due _ (stalls j l stalled)

end

/-- The backlog in the words of the statements (R131). -/
theorem Sched.backlog_eq {x y : Sched} (same : ∀ j l, (x.lane j l).Untouched (y.lane j l)) :
    x.backlog = (allLanes.map fun i =>
      let z := y.lane i.1 i.2
      if z.governing.cls = .bulk then 0 else (z.queue.map fun p => (p.data.length - p.staged + 63) / 64).sum).sum := by
  unfold Sched.backlog
  refine congrArg List.sum (List.map_congr_left fun i _ => ?_)
  dsimp only
  rw [(same i.1 i.2).governing, (same i.1 i.2).queue]
  rfl

/-- Settles O12: each of plan, credits and lanes moves at its own part, and the parts before and behind leave it its course. -/
theorem boundaryMovesTheLanes : Obligations.BoundaryMovesTheLanes := by
  rintro order s ⟨running, due, quiet⟩ ⟨numbered, -⟩
  refine completes_event (f := fun s => s.boundary order true) rfl running ?_
  have unique : (({ s with out := [] } : State).begun).sched.Unique := fun t l => (numbered t l).1
  have none' : (({ s with out := [] } : State).begun).noneDue (({ s with out := [] } : State).begun).htu.hsn := quiet
  rw [State.boundary, State.beginSuperframe_eq (by exact due)]
  have capacity : (({ s with out := [] } : State).begun).capacityAtRenewal =
      (Four.build fun u => if s.unitLocked u = true ∧ s.cpm.acting.get u = some .traffic ∧ s.plc.draining.get u = false then
        s.settings.blocks (s.plc.txProfile.get u) else 0).sum := by
    refine congrArg Four.sum (congrArg Four.build (funext fun u => ?_))
    have locked : (({ s with out := [] } : State).begun).unitLocked u = s.unitLocked u := State.unitLocked_congr rfl (fun _ => rfl) u
    rw [locked]
    simp only [State.actsTraffic, State.isDraining, State.unitBlocks, State.begun, Bool.and_eq_true, beq_iff_eq, Bool.not_eq_true',
      and_assoc]
  generalize ran : (boundaryOrder order).foldl _ (({ s with out := [] } : State).begun) = t
  obtain ⟨renewal, credits⟩ := State.boundary_credits order none' unique ran.symm
  obtain ⟨x, holds, lanes, held, backlog⟩ := State.boundary_lanes order none' unique ran.symm
  rw [capacity] at renewal credits
  refine ⟨fun e mem => ?_, renewal, credits, fun j l => ⟨fun spent => ?_, fun queued same => ?_, (lanes j l).timer⟩, fun same calm => ?_⟩
  · obtain ⟨stays, falls⟩ := State.boundary_plans order none' unique ran.symm (e := e) mem
    refine ⟨stays, fun stands => ?_⟩
    obtain ⟨timeout, past⟩ := falls stands
    exact ⟨timeout, fun u rx agreed target => past u s.htu.hsn rx agreed target rfl⟩
  · obtain ⟨-, -, -, -, bound, mark⟩ := (lanes j l).spent spent
    refine ⟨fun free => bound.trans (Lane.rebound_unbound free), fun b was marked => ?_, fun b was unmarked => ?_⟩
    · obtain ⟨bound', mark'⟩ := Lane.rebound_marked (holds := holds j l) was marked
      exact ⟨bound.trans bound', mark.trans mark'⟩
    · obtain ⟨bound', mark'⟩ := Lane.rebound_unmarked (holds := holds j l) was unmarked
      exact ⟨bound.trans bound', (mark.trans mark').trans (congrArg (!·) (held j l spent b.unit))⟩
  · have rests := (lanes j l).rests same
    exact ⟨rests.timer queued, rests.stall queued⟩
  · have rests : ∀ j l, (x.lane j l).Untouched (t.sched.lane j l) := fun j l => ((lanes j l).rests (same j l)).ticked
    have calm' : ∀ j l, (x.lane j l).stalled = false := fun j l =>
      Bool.eq_false_iff.2 fun stalled => calm j l ((lanes j l).stalls stalled)
    exact (backlog calm').trans (Sched.backlog_eq rests)

end Sys2Proof.Machine
end
